-- ==== Sys2Proof/Word.lean ====
section
/-! DEFINITION. The plain quantities of the OL-2316: bytes, the 48-bit clock, and the bounded numbers that name
stations, resources, incarnations, claim sequences and notices. -/

namespace Sys2Proof

/-- One byte of a line frame, a link frame or a notice record (R190). -/
abbrev Byte := BitVec 8

/-- The claim clock and every value taken from it: sender clocks and stamps, 0 to 2^48 − 1 (R1). -/
abbrev Clock := BitVec 48

/-- A station number, 0 to 31. -/
abbrev Station := Fin 32

/-- An incarnation, 0 to 255, counted modulo 256 (R80). -/
abbrev Incarnation := Fin 256

/-- A resource number, 0 to 255. -/
abbrev Resource := Fin 256

/-- A claim sequence, 0 to 255, counted modulo 256 (R5). -/
abbrev ClaimSeq := Fin 256

/-- A notice number, 0 to 255, counted modulo 256 (R165). -/
abbrev NoticeNumber := Fin 256

/-- A slot of a contention round, 0 to 31 (R136). -/
abbrev Slot := Fin 32

/-- A set of the 16 groups: bit n stands for group n (R190). -/
abbrev Groups := BitVec 16

end Sys2Proof
end

