-- ==== Sys2Proof/Config.lean ====
section
/-! DEFINITION. What the OL-2316 fixes once for all: the sizes of its tables and queues, the weights and thresholds of
the standing, and the limits of its counts. The spec leaves no value free, so there is no opaque constant here. What
the host chooses (the configuration record of R74) is state, not configuration of the model. -/

namespace Sys2Proof.Config

/-- The claim table holds at most 16 entries (R6). -/
abbrev claimTableSize : Nat := 16

/-- The answer queue holds at most 16 GRANTs (R32). -/
abbrev answerQueueSize : Nat := 16

/-- The notice queue holds at most 32 notices (R162). -/
abbrev noticeQueueSize : Nat := 32

/-- The view has one entry for each of 256 resources (R96). -/
abbrev viewSize : Nat := 256

/-- The exhausted clock value, 2^48 − 1 (R3). -/
abbrev clockTop : Clock := 0xFFFFFFFFFFFF

/-- The re-send count saturates here (R7, R20). -/
abbrev resendCountTop : Nat := 255

/-- A heard list has at most 31 pairs (R115, R123). -/
abbrev heardListSize : Nat := 31

/-- A held list has at most 16 resources (R115, R123). -/
abbrev heldListSize : Nat := 16

/-- Both fault counts are bounded at 240 (R149). -/
abbrev faultTop : Nat := 240

/-- A count of 120 or more makes the standing IMPAIRED (R152). -/
abbrev impairedAt : Nat := 120

/-- A send fault adds six (R150). -/
abbrev sendFaultWeight : Nat := 6

/-- A receive fault adds two (R151). -/
abbrev receiveFaultWeight : Nat := 2

/-- Recovery completes at 48 valid frames (R157). -/
abbrev recoveryFrames : Nat := 48

/-- Recovery by quiet takes 4 presence periods (R156, R157). -/
abbrev recoveryPeriods : Nat := 4

/-- The join window lasts 2 presence periods (R79). -/
abbrev joinPeriods : Nat := 2

/-- P is configured in units of 10 ms (R74). -/
abbrev periodUnit : Nat := 10

/-- At most three answers go in a row while an own frame waits (R144). -/
abbrev alternationTop : Nat := 3

/-- The quiet gap in bit-times (R136). -/
abbrev quietGapBits : Nat := 12

/-- The length of a slot in bit-times (R136). -/
abbrev slotBits : Nat := 4

/-- The number of slots of a cycle (R136). -/
abbrev slotsPerCycle : Nat := 32

/-- Periods of the 16 MHz reference clock in one tick (R78). -/
abbrev refclkPerTick : Nat := 16000

/-- The byte that the part drives on LK_SDO outside a response (R191). -/
abbrev fillByte : Byte := 0xFF

/-- The turnaround lasts two bytes (R181). -/
abbrev turnaroundBytes : Nat := 2

end Sys2Proof.Config
end

