-- ==== Sys2Proof/Syntax.lean ====
section
/-! DEFINITION. The commands of the OL-2316: one constructor of `Instr` for each row of spec/opcode_table.json, with the
operands that the spec gives the row, and the frames of the station line that some of them carry (chapter 6). -/

namespace Sys2Proof

/-- The standing that a PRESENCE frame can advertise (R115): SILENCED never appears on the line (R65). -/
inductive AdvertisedStanding where
  | sound
  | impaired
  deriving DecidableEq, Repr

/-- Why a claim was closed: the close reason of R7 and, in capitals, the reason of a FREE frame (R119). -/
inductive CloseReason where
  | released
  | abandoned
  | expired
  deriving DecidableEq, Repr

/-- The header that every frame begins with, less its kind, which the body tells (R114). -/
structure Header where
  source : Station
  incarnation : Incarnation
  clock : Clock
  deriving DecidableEq, Repr

/-- The body of a PRESENCE frame (R115). -/
structure Presence where
  interest : Groups
  standing : AdvertisedStanding
  heard : List (Station × Incarnation)
  held : List Resource
  deriving DecidableEq, Repr

/-- The six frame kinds with their bodies (R115 to R120). -/
inductive Body where
  | presence (p : Presence)
  | claim (resource : Resource) (seq : ClaimSeq) (stamp : Clock)
  | grant (target : Station) (resource : Resource) (seq : ClaimSeq)
  | hold (resource : Resource) (seq : ClaimSeq)
  | free (resource : Resource) (seq : ClaimSeq) (reason : CloseReason)
  | withdraw
  deriving DecidableEq, Repr

/-- A frame of the station line, less its CRC-16, which is computed from the rest (R190). -/
structure Frame where
  header : Header
  body : Body
  deriving DecidableEq, Repr

/-- What the pair shows for half a bit cell (R133). -/
inductive LineLevel where
  /-- LINE_P above LINE_N. -/
  | pAbove
  /-- LINE_N above LINE_P. -/
  | nAbove
  /-- No usable difference: two drivers drive opposite levels. -/
  | unusable
  deriving DecidableEq, Repr

/-- A bit cell by the levels of its two halves (R133). -/
structure LineCell where
  first : LineLevel
  second : LineLevel
  deriving DecidableEq, Repr

/-- Received line activity that is reported as no valid frame (R135). -/
inductive LineFault where
  /-- A code violation that is no delimiter (R122, row "Line code" or "End"). -/
  | codeViolation
  /-- The line fell quiet before an end delimiter: a frame cut short, or noise (R122, R125, R135). -/
  | cutShort
  /-- Two delimiters with these bytes between them: the part applies the checks of R122 and R123 to them. -/
  | bytes (bs : List Byte)
  /-- The cells of a span of activity, up to the moment the line is quiet: the part looks for the delimiters itself. -/
  | cells (cs : List LineCell)
  deriving DecidableEq, Repr

/-- What the read-back of an own frame has shown (R141, R142). -/
inductive ReadBack where
  /-- A cell was read back that is not the cell driven, or a code violation that was not sent. -/
  | mismatch
  /-- The cells read back from the first cell of the frame on: the part compares them with the cells it drives. -/
  | cells (cs : List LineCell)
  deriving DecidableEq, Repr

/-- The arguments of CONFIGURE as the link carries them (R191). -/
structure ConfigureArgs where
  role : Byte
  rate : Byte
  period : Byte
  lossLimit : Byte
  reply : Byte
  interest : Groups
  watch : Groups
  deriving DecidableEq, Repr

/-- The commands: the rows of spec/opcode_table.json, in its order. A host command stands for the edge of LK_SCK that
completes its check byte (R179). -/
inductive Instr where
  /-- CONFIGURE (R75). -/
  | configure (a : ConfigureArgs)
  /-- START (R77). -/
  | start
  /-- LEAVE (R86). -/
  | leave
  /-- CLAIM (R11): a two-byte resource, and the patience in ms or 0. -/
  | claim (resource : BitVec 16) (patience : BitVec 16)
  /-- RELEASE (R23). -/
  | release (resource : BitVec 16)
  /-- ABANDON (R24). -/
  | abandon (resource : BitVec 16)
  /-- QUERY (R112). -/
  | query (resource : BitVec 16)
  /-- ROSTER (R70). -/
  | roster
  /-- PEER (R71). -/
  | peer (station : Byte)
  /-- FETCH (R172). -/
  | fetch
  /-- DISMISS (R172). -/
  | dismiss (number : Byte)
  /-- STATUS (R185). -/
  | status
  /-- REPEAT (R184). -/
  | repeatLast
  /-- LINK_TRANSACTION_ERROR (R182): the bytes before the check byte, and the check byte that completes. -/
  | linkTransactionError (frame : List Byte) (check : Byte)
  /-- TRANSACTION_BEGIN (R177): the falling edge of LK_SEL. -/
  | transactionBegin
  /-- TRANSACTION_END (R180): the rising edge of LK_SEL. -/
  | transactionEnd
  /-- FULL_RESET (R76): the assertion of RESET_N, or power-on. -/
  | fullReset
  /-- RESET_RELEASE (R76): the release of RESET_N with the straps STN0 to STN4 at this number. -/
  | resetRelease (straps : Station)
  /-- TICK (R78). -/
  | tick
  /-- RECEIVE_PRESENCE (R52). -/
  | receivePresence (h : Header) (p : Presence)
  /-- RECEIVE_CLAIM (R35). -/
  | receiveClaim (h : Header) (resource : Resource) (seq : ClaimSeq) (stamp : Clock)
  /-- RECEIVE_GRANT (R16). -/
  | receiveGrant (h : Header) (target : Station) (resource : Resource) (seq : ClaimSeq)
  /-- RECEIVE_HOLD (R99). -/
  | receiveHold (h : Header) (resource : Resource) (seq : ClaimSeq)
  /-- RECEIVE_FREE (R17). -/
  | receiveFree (h : Header) (resource : Resource) (seq : ClaimSeq) (reason : CloseReason)
  /-- RECEIVE_WITHDRAW (R61). -/
  | receiveWithdraw (h : Header)
  /-- RECEIVE_FAULT (R122). -/
  | receiveFault (activity : LineFault)
  /-- CARRIER_DETECTED (R136). -/
  | carrierDetected
  /-- QUIET_GAP_ELAPSED (R136). -/
  | quietGapElapsed
  /-- OWN_SLOT (R140). -/
  | ownSlot
  /-- SEND_FAULT (R141). -/
  | sendFault (readBack : ReadBack := .mismatch)
  /-- CLAIM_FRAME_COMPLETE (R15). -/
  | claimFrameComplete
  /-- CLAIM_RESEND_COMPLETE (R20). -/
  | claimResendComplete
  /-- HOLD_COMPLETE (R27). -/
  | holdComplete
  /-- FREE_COMPLETE (R26). -/
  | freeComplete
  /-- GRANT_COMPLETE (R42). -/
  | grantComplete
  /-- PRESENCE_COMPLETE (R66). -/
  | presenceComplete
  /-- WITHDRAW_COMPLETE (R87). -/
  | withdrawComplete
  /-- JOIN_WINDOW_END (R81). -/
  | joinWindowEnd
  /-- OWN_PRESENCE_LAPSE (R83). -/
  | ownPresenceLapse
  /-- LOSS (R60). -/
  | loss
  /-- PATIENCE_EXPIRY (R21). -/
  | patienceExpiry
  /-- RESEND_DUE (R19). -/
  | resendDue
  /-- PRESENCE_DUE (R146). -/
  | presenceDue
  /-- RECOVERY_QUIET_SPAN (R156). -/
  | recoveryQuietSpan
  /-- BYTE_CLOCKED_BY_HOST (R181): the byte on LK_SDI. -/
  | byteClocked (b : Byte)
  /-- END_OF_UNCOUNTED_ACTIVITY (R137). -/
  | endOfUncountedActivity
  deriving DecidableEq, Repr

end Sys2Proof
end

