-- ==== Sys2Proof/WellFormed.lean ====
section
/-! DEFINITION. Which commands are well formed: a received frame passes the content checks of R123, and a completed
link frame has the length that its own length byte declares (R178). The part itself applies R123 to what it receives
(an ill-formed PRESENCE is a receive fault), so these checks also stand inside the meanings. -/

namespace Sys2Proof

/-- Strictly ascending order of station number (R123). -/
def heardAscending : List (Station × Incarnation) → Bool
  | [] => true
  | [_] => true
  | a :: b :: rest => decide (a.1 < b.1) && heardAscending (b :: rest)

/-- Strictly ascending order of resource (R123). -/
def heldAscending : List Resource → Bool
  | [] => true
  | [_] => true
  | a :: b :: rest => decide (a < b) && heldAscending (b :: rest)

/-- The content checks of R123 on a PRESENCE body: at most 31 heard pairs, at most 16 held resources, at least one
group, and both lists in strictly ascending order. (Its standing cannot be other than SOUND or IMPAIRED here.) -/
def Presence.wellFormed (p : Presence) : Bool :=
  decide (p.heard.length ≤ Config.heardListSize) && decide (p.held.length ≤ Config.heldListSize)
    && decide (p.interest ≠ 0) && heardAscending p.heard && heldAscending p.held

/-- R123: of the six kinds, only PRESENCE has content checks that its type leaves open. -/
def Body.wellFormed : Body → Bool
  | .presence p => p.wellFormed
  | .claim _ _ _ => true
  | .grant _ _ _ => true
  | .hold _ _ => true
  | .free _ _ _ => true
  | .withdraw => true

/-- R178: a command byte, a length byte, and as many argument bytes as the length byte declares. -/
def linkFrameWhole : List Byte → Bool
  | [] => false
  | [_] => false
  | _ :: len :: args => decide (args.length = len.toNat)

/-- A well-formed command. -/
def Instr.wellFormed : Instr → Bool
  | .receivePresence _ p => p.wellFormed
  | .linkTransactionError frame _ => linkFrameWhole frame
  | .configure _ | .start | .leave | .claim _ _ | .release _ | .abandon _ | .query _ | .roster | .peer _ | .fetch
  | .dismiss _ | .status | .repeatLast | .transactionBegin | .transactionEnd | .fullReset | .resetRelease _ | .tick
  | .receiveClaim _ _ _ _ | .receiveGrant _ _ _ _ | .receiveHold _ _ _ | .receiveFree _ _ _ _ | .receiveWithdraw _
  | .receiveFault _ | .carrierDetected | .quietGapElapsed | .ownSlot | .sendFault _ | .claimFrameComplete
  | .claimResendComplete | .holdComplete | .freeComplete | .grantComplete | .presenceComplete | .withdrawComplete
  | .joinWindowEnd | .ownPresenceLapse | .loss | .patienceExpiry | .resendDue | .presenceDue | .recoveryQuietSpan
  | .byteClocked _ | .endOfUncountedActivity => true

end Sys2Proof
end

