-- ==== Sys2Proof/Decode.lean ====
section
/-! DEFINITION. The decoder over spec/opcode_table.json. The table gives none of its 46 rows any bits, so no word spells
a command. The byte codes of the local link (R191) and the layouts of line frames (R190) are decoded in
Machine/LinkCodec.lean and Machine/Wire.lean. -/

namespace Sys2Proof

/-- The command that a word spells by the table's bits: none, since no row has bits. -/
def decodeTableWord (_nbits _w : Nat) : Option Instr := none

end Sys2Proof
end

