-- ==== Sys2Proof/Machine/State.lean ====
section
/-! DEFINITION. The state of the OL-2316, block by block as chapter "Block Diagram" names the blocks, the reasons a step
can stop, and the state after full reset. Everything is plain data. -/

namespace Sys2Proof.Machine

/-! ## Session Controller -/

/-- The eight station states (R76, section 4.2). -/
inductive StationState where
  | setup
  | listening
  | announcing
  | member
  | observing
  | leaving
  | silent
  | halted
  deriving DecidableEq, Repr

/-- The configured role (R74). -/
inductive Role where
  | contender
  | observer
  deriving DecidableEq, Repr

/-- The configured bit rate in kbit/s (R74). -/
inductive BitRate where
  | kbit125
  | kbit250
  | kbit500
  | kbit1000
  deriving DecidableEq, Repr

/-- The seven fields of the configuration record (R74). `period` is P in units of 10 ms, `reply` is I in ms. -/
structure ConfigRecord where
  role : Role
  rate : BitRate
  period : Nat
  lossLimit : Nat
  reply : Nat
  interest : Groups
  watch : Groups
  deriving DecidableEq, Repr

/-- The Session Controller's items (chapter 4). A timer that is stopped is `none`. -/
structure SessionController where
  /-- RESET_N is asserted. -/
  resetAsserted : Bool
  /-- The station number latched from the straps (R76). -/
  number : Station
  /-- The configuration record: `none` while its given flag is clear (R74). -/
  config : Option ConfigRecord
  /-- The station state (R76). -/
  state : StationState
  /-- The incarnation, or the candidate during a join window (R80). -/
  incarnation : Incarnation
  /-- The heard set, ascending (R80). -/
  heardSet : List Incarnation
  /-- Milliseconds left of the join window; 0 is an expiry that no step has taken yet (R79, R81). -/
  joinWindow : Option Nat
  /-- Milliseconds since the last completed own PRESENCE (R83). -/
  ownPresence : Option Nat
  /-- The present tick: ticks since the release of RESET_N (R78). -/
  tick : Nat
  deriving DecidableEq, Repr

/-! ## Claim Engine -/

/-- A claim table entry's state; the close reason exists in RELEASING alone (R7). -/
inductive ClaimState where
  | queued
  | wanted
  | held
  | releasing (reason : CloseReason)
  deriving DecidableEq, Repr

/-- When a re-send is due (R7, R19). -/
inductive ResendDue where
  | now
  | atTick (tick : Nat)
  deriving DecidableEq, Repr

/-- A deferred peer claim (R9). -/
structure Waiter where
  station : Station
  stamp : Clock
  seq : ClaimSeq
  deriving DecidableEq, Repr

/-- What an entry's slot can ask the Send Scheduler to send (R10). -/
inductive Request where
  | firstClaim
  | resend
  | hold
  | free (reason : CloseReason)
  deriving DecidableEq, Repr

/-- An entry's own-frame slot: at most one request on the line and at most one unsent (R10). -/
structure EntrySlot where
  onLine : Option Request
  unsent : Option Request
  deriving DecidableEq, Repr

/-- A claim table entry (R7). A patience deadline that is unbounded, or no longer counts, is `none`. -/
structure ClaimEntry where
  resource : Resource
  seq : ClaimSeq
  state : ClaimState
  stamp : Option Clock
  announced : Bool
  wasHeld : Bool
  awaiting : List Station
  waiters : List Waiter
  patience : Option Nat
  resendDue : Option ResendDue
  resendCount : Nat
  slot : EntrySlot
  deriving DecidableEq, Repr

/-- The Claim Engine's items (chapter 1). The table is in ascending order of resource. -/
structure ClaimEngine where
  clock : Clock
  seq : ClaimSeq
  table : List ClaimEntry
  deriving DecidableEq, Repr

/-! ## Answer Unit -/

/-- A GRANT waiting in the answer queue (R32). -/
structure GrantItem where
  target : Station
  resource : Resource
  seq : ClaimSeq
  deriving DecidableEq, Repr

/-! ## Roster Unit -/

/-- A roster entry (R51). `lossDue` says that the last tick would have raised the silence timer above L × P and the
loss has not been taken yet (R53, R60). `lossMet` is the model's own: the resource of a HOLD that came first
at a loss that was due. The loss then does not happen (R60), and until the next tick a LOSS still drops that hold from the
view entry (R113). It holds one resource, that of the first such HOLD (the model's choice: log 29). -/
structure Member where
  station : Station
  incarnation : Incarnation
  interest : Groups
  standing : AdvertisedStanding
  heardUs : Bool
  held : List Resource
  silence : Nat
  lossDue : Bool
  lossMet : Option Resource
  deriving DecidableEq, Repr

/-! ## View Table -/

/-- How a peer's hold was learned, with the hold sequence that a HOLD frame gives (R96). -/
inductive PeerSource where
  | hold (seq : ClaimSeq)
  | presence
  deriving DecidableEq, Repr

/-- A holder record (R96). An own hold has source LOCAL and the entry's sequence. -/
inductive Holder where
  | own (seq : ClaimSeq)
  | peer (station : Station) (incarnation : Incarnation) (source : PeerSource)
  deriving DecidableEq, Repr

/-- The identity part of a holder record (R96). -/
inductive Identity where
  | own
  | peer (station : Station) (incarnation : Incarnation)
  deriving DecidableEq, Repr

/-- A view entry with the holder records its state has (R96): HELD_PEER and HELD_LOCAL are told apart by the holder. -/
inductive ViewEntry where
  | unknown
  | free
  | held (first : Holder)
  | contested (first latest : Holder)
  deriving DecidableEq, Repr

/-- The view states as they are reported (R96). -/
inductive ViewState where
  | unknown
  | free
  | heldPeer
  | heldLocal
  | contested
  deriving DecidableEq, Repr

/-! ## Line Interface -/

/-- The round type (R137). -/
inductive RoundType where
  | rotating
  | fixed
  deriving DecidableEq, Repr

/-- Where the line stands between own frames (R135, R136). -/
inductive LinePhase where
  /-- Quiet, with no round open: the quiet gap has not passed, or the receiver counts nothing. -/
  | quiet
  /-- A round is open, and this slot is the last that began in it as far as the part's sends are concerned. -/
  | round (slot : Slot)
  /-- Activity is in progress; `counted` says that the receiver has seen it from its start (R121). -/
  | activity (counted : Bool)
  deriving DecidableEq, Repr

/-- Which completion or retry an own frame has (R141, R142). -/
inductive SentKind where
  | firstClaim
  | resend
  | hold
  | free
  | grant
  | presence
  | withdraw
  deriving DecidableEq, Repr

/-- The own frame on the line: its content, fixed at the choice (R147), the slot it started in, and whether the request
it was chosen from still stands (R95). -/
structure SentFrame where
  kind : SentKind
  frame : Frame
  slot : Slot
  live : Bool
  deriving DecidableEq, Repr

/-- The Line Interface's items (chapter 7). -/
structure LineInterface where
  phase : LinePhase
  roundType : RoundType
  base : Station
  onLine : Option SentFrame
  /-- Carrier or an own frame has been on the line in the present tick (R156). -/
  carrierInTick : Bool
  deriving DecidableEq, Repr

/-! ## Send Scheduler -/

/-- The PRESENCE slot and the WITHDRAW slot (R143): at most one request each. -/
inductive OwnSlot where
  | empty
  | unsent
  | onLine
  deriving DecidableEq, Repr

/-- The names of the own-frame slots (R143). -/
inductive SlotName where
  | withdraw
  | presence
  | entry (resource : Resource)
  deriving DecidableEq, Repr

/-- The Send Scheduler's items (R143). The entry slots are held in the claim table entries. -/
structure SendScheduler where
  presence : OwnSlot
  withdraw : OwnSlot
  /-- The slots that hold a request, the oldest placement first (R145). -/
  order : List SlotName
  alternation : Nat
  /-- Milliseconds left of the PRESENCE due timer; 0 is an expiry that no step has taken yet (R146). -/
  presenceDue : Option Nat
  deriving DecidableEq, Repr

/-! ## Standing Monitor -/

/-- The fault standing (R149). -/
inductive Standing where
  | sound
  | impaired
  | silenced
  deriving DecidableEq, Repr

/-- The Standing Monitor's items (R149). -/
structure StandingMonitor where
  sendFaults : Nat
  receiveFaults : Nat
  standing : Standing
  recoveryFrames : Nat
  recoveryQuiet : Nat
  deriving DecidableEq, Repr

/-! ## Notice Queue -/

/-- The session cause of a CLOSED or REVOKED notice (R164, R193). -/
inductive SessionCause where
  | leave
  | lapse
  | silenced
  | duplicate
  deriving DecidableEq, Repr

/-- The cause of a SESSION notice (R93). -/
inductive StateCause where
  | start
  | window
  | announced
  | leave
  | withdrawn
  | lapse
  | silenced
  | recovered
  | duplicate
  deriving DecidableEq, Repr

/-- The event of a PEER notice (R164). -/
inductive PeerEvent where
  | joined
  | renewed
  | lost
  | left
  deriving DecidableEq, Repr

/-- What a SUMMARY for a station says of a member (R170). -/
structure MemberSummary where
  incarnation : Incarnation
  standing : AdvertisedStanding
  heardUs : Bool
  heldCount : Nat
  deriving DecidableEq, Repr

/-- What a SUMMARY for a resource says of the claim table entry (R171). -/
structure ClaimSummary where
  state : ClaimState
  seq : ClaimSeq
  deriving DecidableEq, Repr

/-- The subject of a notice (R163). -/
inductive Subject where
  | session
  | station (x : Station)
  | resource (r : Resource)
  deriving DecidableEq, Repr

/-- A notice's kind, subject and detail (R163, R164, R169 to R171). -/
inductive NoticeBody where
  | granted (r : Resource)
  | closed (r : Resource) (reason : CloseReason) (cause : Option SessionCause)
  | revoked (r : Resource) (cause : SessionCause)
  | conflict (r : Resource) (first latest : Holder)
  | view (r : Resource) (state : ViewState) (first latest : Option Identity)
  | peer (x : Station) (event : PeerEvent) (incarnation : Incarnation)
  | standing (st : Standing) (sendFaults receiveFaults : Nat)
  | session (state : StationState) (cause : StateCause) (omitting : Option Station)
  | summarySession (state : StationState) (incarnation : Incarnation) (standing : Standing)
      (sendFaults receiveFaults fill : Nat)
  | summaryStation (x : Station) (member : Option MemberSummary)
  | summaryResource (r : Resource) (state : ViewState) (first latest : Option Identity) (claim : Option ClaimSummary)
  deriving DecidableEq, Repr

/-- A notice record: its number and what it says (R163). -/
structure Notice where
  number : NoticeNumber
  body : NoticeBody
  deriving DecidableEq, Repr

/-- The Notice Queue's items (R162). The marks that are set are listed in ascending order. -/
structure NoticeQueue where
  queue : List Notice
  next : NoticeNumber
  sessionMark : Bool
  stationMarks : List Station
  resourceMarks : List Resource
  attn : Bool
  deriving DecidableEq, Repr

/-! ## Link Port -/

/-- The nineteen status codes (R186). -/
inductive Status where
  | ok
  | empty
  | stale
  | wrongState
  | notConfigured
  | badValue
  | notInterested
  | role
  | impaired
  | exhausted
  | duplicate
  | tableFull
  | noEntry
  | notHeld
  | held
  | busy
  | linkCrc
  | badLength
  | unknownCommand
  deriving DecidableEq, Repr

/-- A response: its status and its data bytes (R181). -/
structure Response where
  status : Status
  data : List Byte
  deriving DecidableEq, Repr

/-- The transaction phase (R176), with the bytes clocked in TURNAROUND and the bytes sent in RESPONSE (R181). -/
inductive LinkPhase where
  | idle
  | command
  | turnaround (clocked : Nat)
  | response (sent : Nat)
  | done
  deriving DecidableEq, Repr

/-- LK_SDO: high impedance, or driven, with the byte of the last byte time (R177, R181). -/
inductive SerialOut where
  | highImpedance
  | driven (b : Byte)
  deriving DecidableEq, Repr

/-- The response record (R176). -/
structure ResponseRecord where
  code : Byte
  check : Byte
  response : Response
  deriving DecidableEq, Repr

/-- The Link Port's items (R176) and its pins. -/
structure LinkPort where
  /-- LK_SEL is asserted (low). -/
  selected : Bool
  phase : LinkPhase
  /-- The command receive buffer. -/
  received : List Byte
  /-- The response buffer: the whole response frame of R181. -/
  response : List Byte
  record : Option ResponseRecord
  sdo : SerialOut
  deriving DecidableEq, Repr

/-! ## The whole part -/

/-- Everything the spec gives the part, and the queue of commands that wait, first in, first out. -/
structure State where
  session : SessionController
  claims : ClaimEngine
  answers : List GrantItem
  roster : List Member
  view : List ViewEntry
  line : LineInterface
  scheduler : SendScheduler
  standing : StandingMonitor
  notices : NoticeQueue
  link : LinkPort
  pending : List Instr
  deriving DecidableEq, Repr

/-- Why a step stops with a fault. There is no reason: the spec gives the part no state in which it stops (a HALTED
station still answers commands, R91), so the type is closed and empty. Safe. -/
inductive Fault : Type
  deriving DecidableEq, Repr

/-- Why a step refuses a command. -/
inductive Refusal where
  /-- Raised only by an arm of `exec` whose command has no meaning yet; no arm is such. Safe. -/
  | notModelled (mnemonic : String)
  deriving DecidableEq, Repr

/-! ## Full reset -/

/-- R74, R76, R78, R80, R83: the Session Controller after a full reset and its release, with open straps. DESIGN CHOICE
(log 1): RESET_N is released and the straps give station 0. -/
def SessionController.reset : SessionController where
  resetAsserted := false
  number := 0
  config := none
  state := .setup
  incarnation := 0
  heardSet := []
  joinWindow := none
  ownPresence := none
  tick := 0

/-- R1, R5, R6: clock 0, sequence counter 0, table empty. -/
def ClaimEngine.reset : ClaimEngine where
  clock := 0
  seq := 0
  table := []

/-- R96, R108: every entry UNKNOWN. -/
def viewUnknown : List ViewEntry := List.replicate Config.viewSize .unknown

/-- R137: round type fixed, rotation base 0; no frame on the line. -/
def LineInterface.reset : LineInterface where
  phase := .quiet
  roundType := .fixed
  base := 0
  onLine := none
  carrierInTick := false

/-- R143: slots and placement order empty, alternation count 0, PRESENCE due timer stopped. -/
def SendScheduler.reset : SendScheduler where
  presence := .empty
  withdraw := .empty
  order := []
  alternation := 0
  presenceDue := none

/-- R149: counts 0, standing SOUND. -/
def StandingMonitor.reset : StandingMonitor where
  sendFaults := 0
  receiveFaults := 0
  standing := .sound
  recoveryFrames := 0
  recoveryQuiet := 0

/-- R162: queue empty, counter 0, marks clear, ATTN negated. -/
def NoticeQueue.reset : NoticeQueue where
  queue := []
  next := 0
  sessionMark := false
  stationMarks := []
  resourceMarks := []
  attn := false

/-- R176: IDLE, buffers and record empty, LK_SDO high impedance. -/
def LinkPort.reset : LinkPort where
  selected := false
  phase := .idle
  received := []
  response := []
  record := none
  sdo := .highImpedance

/-- The part right after a full reset and its release (R76); nothing waits in its queue. -/
def State.reset : State where
  session := .reset
  claims := .reset
  answers := []
  roster := []
  view := viewUnknown
  line := .reset
  scheduler := .reset
  standing := .reset
  notices := .reset
  link := .reset
  pending := []

end Sys2Proof.Machine
end

