-- ==== Sys2Proof/Machine/Operands.lean ====
section
/-! DEFINITION. What the part reads from the operands of its commands and frames: groups, claim priority, ordered
lists, bytes and their order, the argument forms of the host commands. -/

namespace Sys2Proof.Machine

/-! ## Bytes -/

/-- The `n` bytes of a number, most significant byte first (R190). -/
def bytesBE : Nat → Nat → List Byte
  | 0, _ => []
  | n + 1, x => BitVec.ofNat 8 (x / 256 ^ n) :: bytesBE n x

/-- The number that bytes spell, most significant byte first (R190). -/
def ofBytesBE (bs : List Byte) : Nat := bs.foldl (fun acc b => acc * 256 + b.toNat) 0

/-- A number that fits one byte. -/
def byteOf (x : Nat) : Byte := BitVec.ofNat 8 x

/-- Bit 0 of a one-bit field. -/
def bitOf (b : Bool) : Nat := if b then 1 else 0

/-- The number that bits spell, most significant first (R190). -/
def ofBits (bs : List Bool) : Nat := bs.foldl (fun acc b => acc * 2 + bitOf b) 0

/-! ## Ordered lists -/

/-- Put `x` into a list that is ascending by `key`, in the place of an element with the same key if there is one. -/
def insertAsc {α : Type} (key : α → Nat) (x : α) : List α → List α
  | [] => [x]
  | y :: ys =>
    if key x < key y then x :: y :: ys
    else if key x = key y then x :: ys
    else y :: insertAsc key x ys

/-- The list is strictly ascending by `key`: no key twice. -/
abbrev Ascending {α : Type} (key : α → Nat) (l : List α) : Prop := l.Pairwise (fun a b => key a < key b)

/-- Put a station into a set kept in ascending station order (R8). -/
def insertStation (x : Station) (l : List Station) : List Station := insertAsc Fin.val x l

/-- Put a resource into a set kept in ascending order. -/
def insertResource (r : Resource) (l : List Resource) : List Resource := insertAsc Fin.val r l

/-! ## Groups and claim priority -/

/-- The group of a resource: its number divided by 16 (R74). -/
def groupOf (r : Resource) : Nat := r.val / 16

/-- The resource's group is in the set (R190: bit n stands for group n). -/
def inGroups (g : Groups) (r : Resource) : Bool := g.getLsbD (groupOf r)

/-- R4: claim priority (t, p) outranks (s, o) when its stamp is smaller, or at equal stamps its station number is. -/
def outranks (t : Clock) (p : Station) (s : Clock) (o : Station) : Bool :=
  decide (t < s) || (decide (t = s) && decide (p < o))

/-- Claim priority as one number: the smaller outranks (R4). -/
def priorityKey (t : Clock) (p : Station) : Nat := t.toNat * 32 + p.val

/-- A waiter's claim priority (R9). -/
def Waiter.key (w : Waiter) : Nat := priorityKey w.stamp w.station

/-- Put a waiter at the place that its priority gives it (R9, R37). -/
def insertWaiter (w : Waiter) (l : List Waiter) : List Waiter := insertAsc Waiter.key w l

/-! ## Arguments of host commands -/

/-- A two-byte resource argument: a number over 255 is BAD_VALUE (R191). -/
def resourceArg (x : BitVec 16) : Option Resource :=
  if h : x.toNat < 256 then some ⟨x.toNat, h⟩ else none

/-- A one-byte station argument: a number over 31 is BAD_VALUE (R191). -/
def stationArg (x : Byte) : Option Station :=
  if h : x.toNat < 32 then some ⟨x.toNat, h⟩ else none

/-- A patience argument: 0 asks for unbounded patience (R11). -/
def patienceArg (x : BitVec 16) : Option Nat := if x = 0 then none else some x.toNat

/-- The role byte of CONFIGURE (R191). -/
def roleArg (b : Byte) : Option Role :=
  if b = 0 then some .contender else if b = 1 then some .observer else none

/-- The bit rate byte of CONFIGURE (R191). -/
def rateArg (b : Byte) : Option BitRate :=
  if b = 0 then some .kbit125 else if b = 1 then some .kbit250 else if b = 2 then some .kbit500
  else if b = 3 then some .kbit1000 else none

/-- R74, R191: the record that CONFIGURE's values give, when every one is in its range. A contender's interest set holds
at least one group. -/
def configureArg (a : ConfigureArgs) : Option ConfigRecord :=
  match roleArg a.role, rateArg a.rate with
  | some role, some rate =>
    if 1 ≤ a.period.toNat && (3 ≤ a.lossLimit.toNat && a.lossLimit.toNat ≤ 15) && 2 ≤ a.reply.toNat
        && (role == .observer || a.interest != 0) then
      some { role := role, rate := rate, period := a.period.toNat, lossLimit := a.lossLimit.toNat,
             reply := a.reply.toNat, interest := a.interest, watch := a.watch }
    else none
  | _, _ => none

/-! ## The configured times -/

/-- P in milliseconds (R74). -/
def ConfigRecord.periodMs (c : ConfigRecord) : Nat := c.period * Config.periodUnit

/-- L × P in milliseconds (R53). -/
def ConfigRecord.lossMs (c : ConfigRecord) : Nat := c.lossLimit * c.periodMs

/-- (L − 1) × P in milliseconds (R83). -/
def ConfigRecord.lapseMs (c : ConfigRecord) : Nat := (c.lossLimit - 1) * c.periodMs

/-- 2 × P in milliseconds (R79). -/
def ConfigRecord.joinMs (c : ConfigRecord) : Nat := Config.joinPeriods * c.periodMs

/-- 4 × P in milliseconds (R156). -/
def ConfigRecord.recoveryMs (c : ConfigRecord) : Nat := Config.recoveryPeriods * c.periodMs

/-- The record read where it has not been given. Nothing reads it in a state that can be reached (R74: no timer of a
session runs and no frame is taken before a CONFIGURE). Log 24. -/
def ConfigRecord.unset : ConfigRecord :=
  { role := .contender, rate := .kbit125, period := 0, lossLimit := 0, reply := 0, interest := 0, watch := 0 }

/-- The configuration as the blocks read it (R74). -/
def State.config (s : State) : ConfigRecord := s.session.config.getD .unset

/-! ## Incarnations -/

/-- Step the candidate by 1 until it is a value not in the heard set, at most `fuel` times (R80). -/
def stepAway (heard : List Incarnation) : Nat → Incarnation → Incarnation
  | 0, c => c
  | fuel + 1, c => if c ∈ heard then stepAway heard fuel (c + 1) else c

/-- R80: one reported incarnation joins the heard set, and the candidate steps away from the set; when the set holds all
256 values the candidate is stepped once for the report. -/
def SessionController.report (c : SessionController) (i : Incarnation) : SessionController :=
  let heard := insertAsc Fin.val i c.heardSet
  { c with
    heardSet := heard
    incarnation := if heard.length = 256 then c.incarnation + 1 else stepAway heard 256 c.incarnation }

/-! ## Frames -/

/-- The interest set, standing, heard list and held list of a frame's PRESENCE are well formed, and so is every other
body (R123). -/
def frameValid (f : Frame) : Bool := f.body.wellFormed

/-- The own slot of station `s` (R138). -/
def ownSlotOf (t : RoundType) (base s : Station) : Slot :=
  match t with
  | .rotating => s - base - 1
  | .fixed => s

/-- The beginning of slot `k` of the first cycle, in bit-times after the frame end, with the line quiet (R136). -/
def slotStartBits (k : Slot) : Nat := Config.quietGapBits + Config.slotBits * k.val

/-- The patience left to an entry, as QUERY reports it (R7). -/
def ClaimEntry.patienceLeft (e : ClaimEntry) (tick : Nat) : Option Nat := e.patience.map (· - tick)

end Sys2Proof.Machine
end

