-- ==== Sys2Proof/Machine/Flags.lean ====
section
/-! DEFINITION. The conditions and flags that the blocks compute: receiver and driver activity, exhaustion, the standing
from the counts, the marks and ATTN, and the status and code bytes of chapter 12. -/

namespace Sys2Proof.Machine

/-! ## Station and line -/

/-- R76: the line receiver is active in every state but SETUP and HALTED. -/
def StationState.receiverActive : StationState → Bool
  | .setup | .halted => false
  | .listening | .announcing | .member | .observing | .leaving | .silent => true

/-- R76, R140: the states in which the part may start a frame. -/
def StationState.maySend : StationState → Bool
  | .announcing | .member | .leaving => true
  | .setup | .listening | .observing | .silent | .halted => false

/-- R97: the states in which VIEW notices are given. -/
def StationState.givesView : StationState → Bool
  | .member | .observing => true
  | .setup | .listening | .announcing | .leaving | .silent | .halted => false

/-- An own frame is on the line: the driver is active, whatever the station state (R95). -/
def State.driverActive (s : State) : Bool := s.line.onLine.isSome

/-- R3: the clock is exhausted while it equals 2^48 − 1. -/
def exhausted (c : Clock) : Bool := c == Config.clockTop

/-- R1: the clock becomes the larger of its value and the sender clock. -/
def takeUp (own sender : Clock) : Clock := if own < sender then sender else own

/-! ## Standing -/

/-- R152: the standing outside SILENCED is SOUND exactly when both counts are below 120; SILENCED is not derived. -/
def deriveStanding (old : Standing) (sendFaults receiveFaults : Nat) : Standing :=
  match old with
  | .silenced => .silenced
  | .sound | .impaired =>
    if sendFaults < Config.impairedAt && receiveFaults < Config.impairedAt then .sound else .impaired

/-- R151: a receive fault adds two; at 239 or 240 the count becomes 240. -/
def raiseReceive (n : Nat) : Nat := min Config.faultTop (n + Config.receiveFaultWeight)

/-- R65: the standing as a PRESENCE frame advertises it; a SILENCED station sends none. -/
def Standing.advertised : Standing → AdvertisedStanding
  | .sound => .sound
  | .impaired => .impaired
  | .silenced => .impaired

/-! ## Entries of the claim table -/

/-- The entry shows as held: HELD, or RELEASING with was-held yes (R68, R100). -/
def ClaimEntry.showsHeld (e : ClaimEntry) : Bool :=
  match e.state with
  | .held => true
  | .releasing _ => e.wasHeld
  | .queued | .wanted => false

/-- R18: a WANTED entry with announced yes and an empty awaiting set. -/
def ClaimEntry.readyToHold (e : ClaimEntry) : Bool := e.state == .wanted && e.announced && e.awaiting.isEmpty

/-- R9: the entry can record a deferral: WANTED with announced yes, or HELD. -/
def ClaimEntry.recordsDeferrals (e : ClaimEntry) : Bool :=
  match e.state with
  | .held => true
  | .wanted => e.announced
  | .queued | .releasing _ => false

/-- R21: the deadline has been reached while it counts. -/
def ClaimEntry.patienceReached (e : ClaimEntry) (tick : Nat) : Bool :=
  match e.patience with
  | some d => decide (d ≤ tick)
  | none => false

/-- R19: the re-send due time has been reached. -/
def ClaimEntry.resendReached (e : ClaimEntry) (tick : Nat) : Bool :=
  match e.resendDue with
  | some .now => true
  | some (.atTick d) => decide (d ≤ tick)
  | none => false

/-! ## Marks -/

/-- R162: the marks-pending flag of STATUS, FETCH and DISMISS. -/
def NoticeQueue.marksPending (q : NoticeQueue) : Bool :=
  q.sessionMark || !q.stationMarks.isEmpty || !q.resourceMarks.isEmpty

/-- The flags byte of FETCH and DISMISS: bit 0 (R192). Bits 7 to 1, which the spec does not name, are sent as 0 (log 33). -/
def NoticeQueue.flagsByte (q : NoticeQueue) : Byte := byteOf (bitOf q.marksPending)

/-! ## Codes -/

/-- The status codes' values (R191). -/
def Status.code : Status → Byte
  | .ok => 0x00
  | .empty => 0x01
  | .stale => 0x02
  | .wrongState => 0x10
  | .notConfigured => 0x11
  | .badValue => 0x12
  | .notInterested => 0x13
  | .role => 0x14
  | .impaired => 0x15
  | .exhausted => 0x16
  | .duplicate => 0x17
  | .tableFull => 0x18
  | .noEntry => 0x19
  | .notHeld => 0x1A
  | .held => 0x1B
  | .busy => 0x1C
  | .linkCrc => 0x20
  | .badLength => 0x21
  | .unknownCommand => 0x22

/-- Station state codes (R192). -/
def StationState.code : StationState → Byte
  | .setup => 0
  | .listening => 1
  | .announcing => 2
  | .member => 3
  | .observing => 4
  | .leaving => 5
  | .silent => 6
  | .halted => 7

/-- Standing codes (R192). -/
def Standing.code : Standing → Byte
  | .sound => 0
  | .impaired => 1
  | .silenced => 2

/-- Advertised standing codes (R190). -/
def advertisedCode : AdvertisedStanding → Byte
  | .sound => 0
  | .impaired => 1

/-- View state codes (R192). -/
def ViewState.code : ViewState → Byte
  | .unknown => 0
  | .free => 1
  | .heldPeer => 2
  | .heldLocal => 3
  | .contested => 4

/-- Claim state codes (R192). -/
def ClaimState.code : ClaimState → Byte
  | .queued => 1
  | .wanted => 2
  | .held => 3
  | .releasing _ => 4

/-- Close reason codes, the same as the reason byte of a FREE frame (R190, R192). -/
def closeCode : CloseReason → Byte
  | .released => 1
  | .abandoned => 2
  | .expired => 3

/-- The close reason byte of QUERY: 0 when absent (R192). -/
def ClaimState.closeByte : ClaimState → Byte
  | .releasing reason => closeCode reason
  | .queued | .wanted | .held => 0

/-- Role codes (R191). -/
def Role.code : Role → Byte
  | .contender => 0
  | .observer => 1

/-- Bit rate codes (R191). -/
def BitRate.code : BitRate → Byte
  | .kbit125 => 0
  | .kbit250 => 1
  | .kbit500 => 2
  | .kbit1000 => 3

/-- The session cause byte: 0 when absent (R193). -/
def sessionCauseByte : Option SessionCause → Byte
  | none => 0
  | some .leave => 1
  | some .lapse => 2
  | some .silenced => 3
  | some .duplicate => 4

/-- The SESSION cause byte (R193). -/
def StateCause.code : StateCause → Byte
  | .start => 1
  | .window => 2
  | .announced => 3
  | .leave => 4
  | .withdrawn => 5
  | .lapse => 6
  | .silenced => 7
  | .recovered => 8
  | .duplicate => 9

/-- The PEER event byte (R193). -/
def PeerEvent.code : PeerEvent → Byte
  | .joined => 1
  | .renewed => 2
  | .lost => 3
  | .left => 4

end Sys2Proof.Machine
end

