-- ==== Sys2Proof/Machine/Wire.lean ====
section
/-! DEFINITION. The station line's layouts (R190): the CRC-16, the bytes of a frame, the checks of R122 and R123 on
received bytes, and the signal cells of a sent frame (R133, R134). -/

namespace Sys2Proof.Machine

/-! ## CRC-16 -/

/-- The bits of a byte, most significant first (R190). -/
def byteBits (b : Byte) : List Bool :=
  [b.getLsbD 7, b.getLsbD 6, b.getLsbD 5, b.getLsbD 4, b.getLsbD 3, b.getLsbD 2, b.getLsbD 1, b.getLsbD 0]

/-- One bit into the CRC-16 register (R190). -/
def crc16Step (reg : BitVec 16) (bit : Bool) : BitVec 16 :=
  if bit ^^ reg.getLsbD 15 then (reg <<< 1) ^^^ 0x1021 else reg <<< 1

/-- The CRC-16 of bytes in the order sent (R190). -/
def crc16 (bs : List Byte) : BitVec 16 := (bs.flatMap byteBits).foldl crc16Step 0xFFFF

/-- The two CRC bytes, high byte first (R190). -/
def crc16Bytes (bs : List Byte) : List Byte := bytesBE 2 (crc16 bs).toNat

/-! ## Sending -/

/-- The kind codes of the header (R190). -/
def bodyKind : Body → Nat
  | .presence _ => 1
  | .claim _ _ _ => 2
  | .grant _ _ _ => 3
  | .hold _ _ => 4
  | .free _ _ _ => 5
  | .withdraw => 6

/-- The eight header bytes (R190). -/
def headerBytes (kind : Nat) (h : Header) : List Byte :=
  byteOf (kind * 32 + h.source.val) :: byteOf h.incarnation.val :: bytesBE 6 h.clock.toNat

/-- The pairs of a heard list (R190). -/
def heardBytes (l : List (Station × Incarnation)) : List Byte :=
  l.flatMap fun p => [byteOf p.1.val, byteOf p.2.val]

/-- The resources of a held list (R190). -/
def heldBytes (l : List Resource) : List Byte := l.map fun r => byteOf r.val

/-- The body bytes (R190). -/
def bodyBytes : Body → List Byte
  | .presence p =>
    bytesBE 2 p.interest.toNat ++ [advertisedCode p.standing, byteOf p.heard.length, byteOf p.held.length]
      ++ heardBytes p.heard ++ heldBytes p.held
  | .claim r q t => [byteOf r.val, byteOf q.val] ++ bytesBE 6 t.toNat
  | .grant x r q => [byteOf x.val, byteOf r.val, byteOf q.val]
  | .hold r q => [byteOf r.val, byteOf q.val]
  | .free r q reason => [byteOf r.val, byteOf q.val, closeCode reason]
  | .withdraw => []

/-- Header and body (R190). -/
def payloadBytes (f : Frame) : List Byte := headerBytes (bodyKind f.body) f.header ++ bodyBytes f.body

/-- The bytes between the delimiters: header, body and CRC-16 (R134, R190). -/
def frameBytes (f : Frame) : List Byte := payloadBytes f ++ crc16Bytes (payloadBytes f)

/-! ## Signal cells -/

/-- R133: a bit is a transition at the middle of its cell. -/
def bitCell (b : Bool) : LineCell :=
  if b then { first := .pAbove, second := .nAbove } else { first := .nAbove, second := .pAbove }

/-- LINE_P above LINE_N for the whole cell (R190). -/
def heldP : LineCell := { first := .pAbove, second := .pAbove }

/-- LINE_N above LINE_P for the whole cell (R190). -/
def heldN : LineCell := { first := .nAbove, second := .nAbove }

/-- The preamble: 16 cells, alternating, beginning with 1 (R134, R190). -/
def preambleCells : List LineCell := (List.range 16).map fun i => bitCell (i % 2 == 0)

/-- The start delimiter (R190). -/
def startDelimiter : List LineCell := [heldP, heldN]

/-- The end delimiter (R190). -/
def endDelimiter : List LineCell := [heldN, heldP]

/-- What the driver puts on the line for a frame: its four parts with no pause between them (R134). -/
def frameCells (f : Frame) : List LineCell :=
  preambleCells ++ startDelimiter ++ (frameBytes f).flatMap (fun b => (byteBits b).map bitCell) ++ endDelimiter

/-- The bytes of the own frame on the line (R147). -/
def SentFrame.bytes (f : SentFrame) : List Byte := frameBytes f.frame

/-- The cells of the own frame on the line, which the read-back is compared with (R141). -/
def SentFrame.cells (f : SentFrame) : List LineCell := frameCells f.frame

/-! ## Read-back -/

/-- What comparing the cells read back with the cells driven decides (R141, R142). -/
inductive ReadBackVerdict where
  /-- A cell differs: the frame aborts. -/
  | differs
  /-- The last cell of the end delimiter has been read back without a mismatch. -/
  | whole
  /-- No cell differs so far, and cells are still to be driven. -/
  | soFar
  deriving DecidableEq, Repr

/-- R141: every cell read back is compared with the cell driven, in order; the first that differs decides. A code violation that
was not sent, or a cell with no usable difference (R133), differs from any cell driven in its place. Cells after the last one
driven are not the frame's. -/
def compareCells : List LineCell → List LineCell → ReadBackVerdict
  | [], _ => .whole
  | _ :: _, [] => .soFar
  | d :: driven, c :: read => if c = d then compareCells driven read else .differs

/-- What the read-back of the own frame on the line decides. -/
def SentFrame.verdict (f : SentFrame) : ReadBack → ReadBackVerdict
  | .mismatch => .differs
  | .cells cs => compareCells f.cells cs

/-! ## Framing received cells -/

/-- R133: the bit that a received cell holds; a cell without its middle transition is a code violation and holds none. -/
def bitOfCell (c : LineCell) : Option Bool :=
  if c = bitCell true then some true else if c = bitCell false then some false else none

/-- R122, R190: the bits from the cell after the start delimiter to the end delimiter; none when another code violation, or
the quiet line, comes first. -/
def bitsToEnd : List LineCell → Option (List Bool)
  | c :: d :: rest =>
    match bitOfCell c with
    | some b => (bitsToEnd (d :: rest)).map (b :: ·)
    | none => if c = heldN ∧ d = heldP then some [] else none
  | [_] => none
  | [] => none

/-- R134, R135: the bits between the first start delimiter and the end delimiter of a span of activity; none when a code
violation that is no start delimiter comes first. The cells before the start delimiter are not counted (R134), nor are their
values checked (log 31). -/
def bitsOfSpan : List LineCell → Option (List Bool)
  | c :: d :: rest =>
    match bitOfCell c with
    | some _ => bitsOfSpan (d :: rest)
    | none => if c = heldP ∧ d = heldN then bitsToEnd rest else none
  | [_] => none
  | [] => none

/-- R190: bits, most significant first, as whole bytes; none when they are no whole number of bytes (log 31). -/
def bytesOfBits : List Bool → Option (List Byte)
  | b7 :: b6 :: b5 :: b4 :: b3 :: b2 :: b1 :: b0 :: rest =>
    (bytesOfBits rest).map
      (byteOf (ofBits [b7, b6, b5, b4, b3, b2, b1, b0]) :: ·)
  | [] => some []
  | _ => none

/-- R122, R135: the bytes between the delimiters of a span of activity; none when it is a fault by its cells alone. -/
def framedBytes (cs : List LineCell) : Option (List Byte) := (bitsOfSpan cs).bind bytesOfBits

/-! ## Receiving -/

/-- A station in a byte: bits 4 to 0; bits 7 to 5 are not checked (R190). -/
def stationOfByte (b : Byte) : Station := ⟨b.toNat % 32, Nat.mod_lt _ (by decide)⟩

/-- An 8-bit number in a byte. -/
def numberOfByte (b : Byte) : Fin 256 := ⟨b.toNat, b.isLt⟩

/-- A 48-bit field (R190). -/
def clockOfBytes (bs : List Byte) : Clock := BitVec.ofNat 48 (ofBytesBE bs)

/-- The heard pairs in the bytes after the counts. -/
def heardOfBytes : List Byte → List (Station × Incarnation)
  | a :: b :: rest => (stationOfByte a, numberOfByte b) :: heardOfBytes rest
  | _ => []

/-- R123: the advertised standing's code. -/
def advertisedOfByte (b : Byte) : Option AdvertisedStanding :=
  if b = 0 then some .sound else if b = 1 then some .impaired else none

/-- R123: the reason's code. -/
def reasonOfByte (b : Byte) : Option CloseReason :=
  if b = 1 then some .released else if b = 2 then some .abandoned else if b = 3 then some .expired else none

/-- The body that a kind code and the bytes after the header give, or nothing when the kind, the length (R122) or a code
(R123) is wrong. -/
def bodyOfBytes (kind : Nat) (bs : List Byte) : Option Body :=
  match kind, bs with
  | 1, g1 :: g0 :: st :: h :: k :: rest =>
    if rest.length = 2 * h.toNat + k.toNat then
      (advertisedOfByte st).map fun standing =>
        .presence { interest := BitVec.ofNat 16 (ofBytesBE [g1, g0]), standing := standing,
                    heard := heardOfBytes (rest.take (2 * h.toNat)),
                    held := (rest.drop (2 * h.toNat)).map numberOfByte }
    else none
  | 2, r :: q :: stamp =>
    if stamp.length = 6 then some (.claim (numberOfByte r) (numberOfByte q) (clockOfBytes stamp)) else none
  | 3, [x, r, q] => some (.grant (stationOfByte x) (numberOfByte r) (numberOfByte q))
  | 4, [r, q] => some (.hold (numberOfByte r) (numberOfByte q))
  | 5, [r, q, reason] => (reasonOfByte reason).map fun c => .free (numberOfByte r) (numberOfByte q) c
  | 6, [] => some .withdraw
  | _, _ => none

/-- The frame that header and body bytes give. -/
def frameOfPayload : List Byte → Option Frame
  | b0 :: inc :: c5 :: c4 :: c3 :: c2 :: c1 :: c0 :: rest =>
    (bodyOfBytes (b0.toNat / 32) rest).map fun body =>
      { header := { source := stationOfByte b0, incarnation := numberOfByte inc,
                    clock := clockOfBytes [c5, c4, c3, c2, c1, c0] },
        body := body }
  | _ => none

/-- R122, R123: the frame that the bytes between two delimiters give when they pass every check: kind, length, CRC-16 and
content. -/
def frameOfBytes (bs : List Byte) : Option Frame :=
  let payload := bs.take (bs.length - 2)
  if bs.drop (bs.length - 2) = crc16Bytes payload then
    (frameOfPayload payload).filter frameValid
  else none

end Sys2Proof.Machine
end

