-- ==== Sys2Proof/Machine/LinkCodec.lean ====
section
/-! DEFINITION. The local link's layouts (R191 to R193): the CRC-8, command and response frames, the command codes, the
notice record and the bodies that responses share. -/

namespace Sys2Proof.Machine

/-! ## CRC-8 and frames -/

/-- One bit into the CRC-8 register (R191). -/
def crc8Step (reg : BitVec 8) (bit : Bool) : BitVec 8 :=
  if bit ^^ reg.getLsbD 7 then (reg <<< 1) ^^^ 0x07 else reg <<< 1

/-- The CRC-8 of bytes (R178, R191). -/
def crc8 (bs : List Byte) : Byte := (bs.flatMap byteBits).foldl crc8Step 0x00

/-- A command frame without its check byte: command byte, length byte, arguments (R178). -/
def commandFrame (code : Byte) (args : List Byte) : List Byte := code :: byteOf args.length :: args

/-- A response frame (R181). -/
def Response.bytes (r : Response) : List Byte :=
  let body := r.status.code :: byteOf r.data.length :: r.data
  body ++ [crc8 body]

/-- The argument bytes of CONFIGURE (R191). -/
def configureBytes (a : ConfigureArgs) : List Byte :=
  [a.role, a.rate, a.period, a.lossLimit, a.reply] ++ bytesBE 2 a.interest.toNat ++ bytesBE 2 a.watch.toNat

/-- The command frames of the thirteen host commands (R191); a command that is not a host command has none. -/
def linkFrame : Instr → List Byte
  | .configure a => commandFrame 0x01 (configureBytes a)
  | .start => commandFrame 0x02 []
  | .leave => commandFrame 0x03 []
  | .claim r p => commandFrame 0x04 (bytesBE 2 r.toNat ++ bytesBE 2 p.toNat)
  | .release r => commandFrame 0x05 (bytesBE 2 r.toNat)
  | .abandon r => commandFrame 0x06 (bytesBE 2 r.toNat)
  | .query r => commandFrame 0x07 (bytesBE 2 r.toNat)
  | .roster => commandFrame 0x08 []
  | .peer x => commandFrame 0x09 [x]
  | .fetch => commandFrame 0x0A []
  | .dismiss n => commandFrame 0x0B [n]
  | .status => commandFrame 0x0C []
  | .repeatLast => commandFrame 0x0D []
  | .linkTransactionError _ _ | .transactionBegin | .transactionEnd | .fullReset | .resetRelease _ | .tick
  | .receivePresence _ _ | .receiveClaim _ _ _ _ | .receiveGrant _ _ _ _ | .receiveHold _ _ _ | .receiveFree _ _ _ _
  | .receiveWithdraw _ | .receiveFault _ | .carrierDetected | .quietGapElapsed | .ownSlot | .sendFault _
  | .claimFrameComplete | .claimResendComplete | .holdComplete | .freeComplete | .grantComplete | .presenceComplete
  | .withdrawComplete | .joinWindowEnd | .ownPresenceLapse | .loss | .patienceExpiry | .resendDue | .presenceDue
  | .recoveryQuietSpan | .byteClocked _ | .endOfUncountedActivity => []

/-- The argument length of each command code; none for a byte that names no command (R191). -/
def argumentLength (code : Byte) : Option Nat :=
  match code.toNat with
  | 0x01 => some 9
  | 0x02 | 0x03 | 0x08 | 0x0A | 0x0C | 0x0D => some 0
  | 0x04 => some 4
  | 0x05 | 0x06 | 0x07 => some 2
  | 0x09 | 0x0B => some 1
  | _ => none

/-- A two-byte argument (R190). -/
def word16 (hi lo : Byte) : BitVec 16 := hi ++ lo

/-- The command that a code and argument bytes of the right length name (R191). -/
def commandOf (code : Byte) (args : List Byte) : Option Instr :=
  match code.toNat, args with
  | 0x01, [role, rate, p, l, i, g1, g0, w1, w0] =>
    some (.configure { role := role, rate := rate, period := p, lossLimit := l, reply := i,
                       interest := word16 g1 g0, watch := word16 w1 w0 })
  | 0x02, [] => some .start
  | 0x03, [] => some .leave
  | 0x04, [r1, r0, p1, p0] => some (.claim (word16 r1 r0) (word16 p1 p0))
  | 0x05, [r1, r0] => some (.release (word16 r1 r0))
  | 0x06, [r1, r0] => some (.abandon (word16 r1 r0))
  | 0x07, [r1, r0] => some (.query (word16 r1 r0))
  | 0x08, [] => some .roster
  | 0x09, [x] => some (.peer x)
  | 0x0A, [] => some .fetch
  | 0x0B, [n] => some (.dismiss n)
  | 0x0C, [] => some .status
  | 0x0D, [] => some .repeatLast
  | _, _ => none

/-- R179: what the check byte decides, by the three tests in order. -/
inductive LinkVerdict where
  | error (status : Status)
  | taken (command : Instr)
  deriving DecidableEq, Repr

/-- R178: the bytes gathered make a whole command frame, so the next byte is its check byte. -/
def commandWhole (frame : List Byte) : Bool := linkFrameWhole frame

/-- R179: the check test, the code test and the length test on a whole frame and its check byte. -/
def linkVerdict (frame : List Byte) (check : Byte) : LinkVerdict :=
  if check ≠ crc8 frame then .error .linkCrc
  else
    match frame with
    | code :: len :: args =>
      match argumentLength code with
      | none => .error .unknownCommand
      | some n =>
        if len.toNat ≠ n then .error .badLength
        else
          match commandOf code args with
          | some c => .taken c
          | none => .error .badLength
    | _ => .error .linkCrc

/-! ## Shared response bodies -/

/-- An identity with its incarnation byte (R192). -/
def identityBytes : Option Identity → List Byte
  | none => [0xFF, 0]
  | some .own => [0x40, 0]
  | some (.peer x i) => [byteOf x.val, byteOf i.val]

/-- The identity of a holder record (R96). -/
def Holder.identity : Holder → Identity
  | .own _ => .own
  | .peer x i _ => .peer x i

/-- A holder record in 4 bytes: identity, source, hold sequence (R192). The hold sequence byte of an absent record is 0, which
the spec does not state (log 30). -/
def holderBytes : Option Holder → List Byte
  | none => identityBytes none ++ [0, 0]
  | some (.own q) => identityBytes (some .own) ++ [3, byteOf q.val]
  | some (.peer x i (.hold q)) => identityBytes (some (.peer x i)) ++ [1, byteOf q.val]
  | some (.peer x i .presence) => identityBytes (some (.peer x i)) ++ [2, 0]

/-! ## Notice records -/

/-- The subject of a notice (R163). -/
def NoticeBody.subject : NoticeBody → Subject
  | .granted r => .resource r
  | .closed r _ _ => .resource r
  | .revoked r _ => .resource r
  | .conflict r _ _ => .resource r
  | .view r _ _ _ => .resource r
  | .peer x _ _ => .station x
  | .standing _ _ _ => .session
  | .session _ _ _ => .session
  | .summarySession _ _ _ _ _ _ => .session
  | .summaryStation x _ => .station x
  | .summaryResource r _ _ _ _ => .resource r

/-- The kind byte of a notice record (R193). -/
def NoticeBody.kindByte : NoticeBody → Byte
  | .granted _ => 1
  | .closed _ _ _ => 2
  | .revoked _ _ => 3
  | .conflict _ _ _ => 4
  | .view _ _ _ _ => 5
  | .peer _ _ _ => 6
  | .standing _ _ _ => 7
  | .session _ _ _ => 8
  | .summarySession _ _ _ _ _ _ => 9
  | .summaryStation _ _ => 9
  | .summaryResource _ _ _ _ _ => 9

/-- Subject class and subject value (R193). -/
def subjectBytes : Subject → List Byte
  | .session => [0, 0]
  | .station x => [1, byteOf x.val]
  | .resource r => [2, byteOf r.val]

/-- The detail bytes of a notice (R193). -/
def NoticeBody.detail : NoticeBody → List Byte
  | .granted _ => []
  | .closed _ reason cause => [closeCode reason, sessionCauseByte cause]
  | .revoked _ cause => [sessionCauseByte (some cause)]
  | .conflict _ first latest => holderBytes (some first) ++ holderBytes (some latest)
  | .view _ st first latest => st.code :: (identityBytes first ++ identityBytes latest)
  | .peer _ event i => [event.code, byteOf i.val]
  | .standing st a b => [st.code, byteOf a, byteOf b]
  | .session st cause omitting => [st.code, cause.code, (omitting.map fun x => byteOf x.val).getD 0xFF]
  | .summarySession st i sg a b fill =>
    [st.code, byteOf i.val, sg.code, byteOf a, byteOf b, byteOf fill]
  | .summaryStation _ none => [0, 0, 0, 0, 0]
  | .summaryStation _ (some m) =>
    [1, byteOf m.incarnation.val, advertisedCode m.standing, byteOf (bitOf m.heardUs), byteOf m.heldCount]
  | .summaryResource _ st first latest claim =>
    st.code :: (identityBytes first ++ identityBytes latest) ++
      match claim with
      | none => [0, 0, 0]
      | some c => [1, c.state.code, byteOf c.seq.val]

/-- A notice record: five fixed bytes and its detail (R193). -/
def Notice.bytes (n : Notice) : List Byte :=
  [byteOf n.number.val, n.body.kindByte] ++ subjectBytes n.body.subject ++ [byteOf n.body.detail.length] ++ n.body.detail

end Sys2Proof.Machine
end

