-- ==== Sys2Proof/Machine/View.lean ====
section
/-! DEFINITION. The View Table's operations on its entries (chapter 5): how a holder is added, updated, replaced and
dropped, and what an entry shows. -/

namespace Sys2Proof.Machine

/-! ## What an entry shows -/

/-- The first holder's record (R96). -/
def ViewEntry.first : ViewEntry → Option Holder
  | .unknown | .free => none
  | .held h => some h
  | .contested h _ => some h

/-- The latest holder's record (R96). -/
def ViewEntry.latest : ViewEntry → Option Holder
  | .unknown | .free | .held _ => none
  | .contested _ h => some h

/-- The view state (R96): HELD_LOCAL when the one holder is own, HELD_PEER when it is a peer. -/
def ViewEntry.shownState : ViewEntry → ViewState
  | .unknown => .unknown
  | .free => .free
  | .held (.own _) => .heldLocal
  | .held (.peer _ _ _) => .heldPeer
  | .contested _ _ => .contested

/-- What a VIEW notice compares before and after an event: the state and the identity in either slot (R110). -/
def ViewEntry.shown (e : ViewEntry) : ViewState × Option Identity × Option Identity :=
  (e.shownState, e.first.map Holder.identity, e.latest.map Holder.identity)

/-- The entry records own as a holder (R100). -/
def ViewEntry.recordsOwn (e : ViewEntry) : Bool :=
  e.first.map Holder.identity == some .own || e.latest.map Holder.identity == some .own

/-- The view entry of a resource (R96: the table always holds all 256). -/
def viewAt (v : List ViewEntry) (r : Resource) : ViewEntry := v.getD r.val .unknown

/-! ## Holders -/

/-- The record is station `x`'s, whatever its incarnation (R98, R105). -/
def Holder.isPeer (x : Station) : Holder → Bool
  | .own _ => false
  | .peer y _ _ => y == x

/-- The record is own (R106). -/
def Holder.isOwn : Holder → Bool
  | .own _ => true
  | .peer _ _ _ => false

/-- The record is station `x`'s, of another incarnation than `i`: what the incarnation sweep drops (R98). -/
def Holder.isStale (x : Station) (i : Incarnation) : Holder → Bool
  | .own _ => false
  | .peer y j _ => y == x && j != i

/-- The two records are of one holder: a peer holder is named by its station number (R98). -/
def Holder.same : Holder → Holder → Bool
  | .own _, .own _ => true
  | .peer x _ _, .peer y _ _ => x == y
  | .own _, .peer _ _ _ => false
  | .peer _ _ _, .own _ => false

/-- R99: the record of a holder already recorded takes the new source and sequence if the update is a HOLD; a held list
leaves it as it was. -/
def Holder.updatedBy (old new : Holder) : Holder :=
  match new with
  | .peer _ _ .presence => old
  | .peer _ _ (.hold _) => new
  | .own _ => new

/-! ## Adding and dropping -/

/-- R99 to R101: add a holder. The flag says that it was added while another holder was recorded, which is a CONFLICT
(R109). At a third holder the own station, or else the first holder, is kept and becomes the first (R101). -/
def ViewEntry.add (h : Holder) : ViewEntry → ViewEntry × Bool
  | .unknown => (.held h, false)
  | .free => (.held h, false)
  | .held g => if g.same h then (.held (g.updatedBy h), false) else (.contested g h, true)
  | .contested a b =>
    if a.same h then (.contested (a.updatedBy h) b, false)
    else if b.same h then (.contested a (b.updatedBy h), false)
    else (.contested (if b.isOwn then b else a) h, true)

/-- R102: drop the recorded holders that `p` names. The remaining holder of a CONTESTED entry becomes its first. -/
def ViewEntry.drop (p : Holder → Bool) : ViewEntry → ViewEntry
  | .unknown => .unknown
  | .free => .free
  | .held h => if p h then .free else .held h
  | .contested a b =>
    match p a, p b with
    | false, false => .contested a b
    | true, false => .held b
    | false, true => .held a
    | true, true => .free

/-- Drop from every entry the holders that `p` names (R98, R105). -/
def dropEverywhere (p : Holder → Bool) (v : List ViewEntry) : List ViewEntry := v.map (ViewEntry.drop p)

/-- Drop from the entry of one resource (R103, R106). -/
def dropAt (r : Resource) (p : Holder → Bool) (v : List ViewEntry) : List ViewEntry :=
  v.set r.val ((viewAt v r).drop p)

/-- R107: at the end of the join window an UNKNOWN entry becomes FREE. -/
def ViewEntry.endWindow : ViewEntry → ViewEntry
  | .unknown => .free
  | .free => .free
  | .held h => .held h
  | .contested a b => .contested a b

/-- R104, step 1: drop X's hold from every entry whose resource the held list does not name; `n` is the number of the
first entry of the list. -/
def dropUnlisted (x : Station) (held : List Resource) : Nat → List ViewEntry → List ViewEntry
  | _, [] => []
  | n, e :: rest =>
    (if held.any (fun r => r.val == n) then e else e.drop (Holder.isPeer x)) :: dropUnlisted x held (n + 1) rest

/-! ## Notices -/

/-- R109 to R111: the notices that an event gives, entry by entry in ascending order of resource, CONFLICT before VIEW.
`conflicts` names the entries where a holder was added beside another; `watch` is the watch set where VIEW notices are
given. The entries are compared before and after the whole event; `n` is the number of the first. -/
def viewNotices (conflicts : List Resource) (watch : Option Groups) :
    Nat → List ViewEntry → List ViewEntry → List NoticeBody
  | n, b :: before, a :: after =>
    let r : Resource := Fin.ofNat 256 n
    let conflict :=
      match a with
      | .contested f l => if r ∈ conflicts then [NoticeBody.conflict r f l] else []
      | .unknown | .free | .held _ => []
    let view :=
      match watch with
      | some g =>
        if inGroups g r && b.shown != a.shown then
          [NoticeBody.view r a.shownState (a.first.map Holder.identity) (a.latest.map Holder.identity)]
        else []
      | none => []
    conflict ++ (view ++ viewNotices conflicts watch (n + 1) before after)
  | _, _, _ => []

end Sys2Proof.Machine
end

