-- ==== Sys2Proof/Machine/Ops.lean ====
section
/-! DEFINITION. The named operations of the blocks that the commands' meanings are made of: giving a notice, the claim
table and its slots, the answer queue, the counts of the Standing Monitor, the session ends, and the roster's events with
what they hand to the other blocks. -/

namespace Sys2Proof.Machine

/-! ## Notice Queue -/

/-- R166: set the mark of a subject. -/
def NoticeQueue.setMark (q : NoticeQueue) : Subject → NoticeQueue
  | .session => { q with sessionMark := true }
  | .station x => { q with stationMarks := insertStation x q.stationMarks }
  | .resource r => { q with resourceMarks := insertResource r q.resourceMarks }

/-- R165: a record enters at the tail with the next number; ATTN is then asserted (R174). -/
def NoticeQueue.enter (q : NoticeQueue) (b : NoticeBody) : NoticeQueue :=
  { q with queue := q.queue ++ [{ number := q.next, body := b }], next := q.next + 1, attn := true }

/-- R165, R166: a notice enters when the queue holds fewer than 32, and sets its subject's mark otherwise. -/
def NoticeQueue.give (q : NoticeQueue) (b : NoticeBody) : NoticeQueue :=
  if q.queue.length < Config.noticeQueueSize then q.enter b else q.setMark b.subject

/-- A producer gives a notice. -/
def State.give (s : State) (b : NoticeBody) : State := { s with notices := s.notices.give b }

/-- The notices of one event, one after another (R165). -/
def State.giveAll (s : State) (bs : List NoticeBody) : State := { s with notices := bs.foldl NoticeQueue.give s.notices }

/-! ## Claim table -/

/-- The entry for a resource (R6). -/
def ClaimEngine.entry? (c : ClaimEngine) (r : Resource) : Option ClaimEntry := c.table.find? (·.resource == r)

/-- The entry for a resource (R6). -/
def State.entry? (s : State) (r : Resource) : Option ClaimEntry := s.claims.entry? r

/-- Change the entry for a resource, if there is one. -/
def State.modifyEntry (s : State) (r : Resource) (f : ClaimEntry → ClaimEntry) : State :=
  { s with claims := { s.claims with table := s.claims.table.map fun e => if e.resource = r then f e else e } }

/-! ## Send Scheduler -/

/-- R145: a request takes its place as the newest. -/
def SendScheduler.place (c : SendScheduler) (n : SlotName) : SendScheduler :=
  { c with order := c.order.filter (· != n) ++ [n] }

/-- A slot that holds no request has no place. -/
def SendScheduler.forget (c : SendScheduler) (n : SlotName) : SendScheduler :=
  { c with order := c.order.filter (· != n) }

/-- R10: place a request in an entry's slot, in place of an unsent one. A frame on the line runs out before it. -/
def State.placeRequest (s : State) (r : Resource) (q : Request) : State :=
  let t := s.modifyEntry r fun e => { e with slot := { e.slot with unsent := some q } }
  { t with scheduler := t.scheduler.place (.entry r) }

/-- The resource whose entry a frame was chosen from (R142). -/
def SentFrame.entryResource? (f : SentFrame) : Option Resource :=
  match f.frame.body with
  | .claim r _ _ => some r
  | .hold r _ => some r
  | .free r _ _ => some r
  | .presence _ | .grant _ _ _ | .withdraw => none

/-- The answer queue item that a frame was chosen from (R42). -/
def SentFrame.grantItem? (f : SentFrame) : Option GrantItem :=
  match f.frame.body with
  | .grant x r q => some { target := x, resource := r, seq := q }
  | .presence _ | .claim _ _ _ | .hold _ _ | .free _ _ _ | .withdraw => none

/-- R95: the request of the frame on the line no longer stands when `p` names it; the frame runs out. -/
def LineInterface.cutLoose (l : LineInterface) (p : SentFrame → Bool) : LineInterface :=
  { l with onLine := l.onLine.map fun f => if p f then { f with live := false } else f }

/-- R6, R10: remove the entry for a resource; its slot is emptied and a frame on the line runs out. -/
def State.removeEntry (s : State) (r : Resource) : State :=
  { s with
    claims := { s.claims with table := s.claims.table.filter fun e => e.resource != r }
    scheduler := s.scheduler.forget (.entry r)
    line := s.line.cutLoose fun f => f.entryResource? == some r }

/-! ## Answer queue -/

/-- R43 to R46: withdraw the GRANTs that `p` names; one whose frame is on the line leaves at once and its frame runs
out. -/
def State.withdrawGrants (s : State) (p : GrantItem → Bool) : State :=
  { s with
    answers := s.answers.filter fun g => !p g
    line := s.line.cutLoose fun f => f.grantItem?.any p }

/-- R40, R41: how a GRANT decision is taken into the answer queue; none when the full queue drops it. -/
def joinAnswers (q : List GrantItem) (g : GrantItem) : Option (List GrantItem) :=
  if g ∈ q then some q
  else if q.any (fun x => x.target == g.target && x.resource == g.resource) then
    some (q.filter (fun x => !(x.target == g.target && x.resource == g.resource)) ++ [g])
  else if q.length < Config.answerQueueSize then some (q ++ [g])
  else none

/-! ## One event and its notices -/

/-- What one event has done so far, with the notices it will give at its end (R55, R111, R127): the own entries it moved
to HELD and the view entries where it added a holder beside another. -/
structure Take where
  state : State
  granted : List Resource
  conflicts : List Resource
  deriving DecidableEq, Repr

/-- The beginning of an event. -/
def State.begin (s : State) : Take := { state := s, granted := [], conflicts := [] }

/-- Add a holder to the view entry of a resource (R99 to R101). -/
def Take.addHolder (k : Take) (r : Resource) (h : Holder) : Take :=
  let added := (viewAt k.state.view r).add h
  { k with
    state := { k.state with view := k.state.view.set r.val added.1 }
    conflicts := if added.2 then insertResource r k.conflicts else k.conflicts }

/-- Drop from every view entry the holders that `p` names. -/
def Take.dropHolders (k : Take) (p : Holder → Bool) : Take :=
  { k with state := { k.state with view := dropEverywhere p k.state.view } }

/-- Act on the state of the event. -/
def Take.on (k : Take) (f : State → State) : Take := { k with state := f k.state }

/-- The watch set where VIEW notices are given when the event is taken in this state (R110). -/
def State.viewWatch (s : State) : Option Groups :=
  if s.session.state.givesView then some s.config.watch else none

/-- R55, R111: the notices of the event, after any PEER notice: GRANTED in ascending order of resource, then the view's. -/
def Take.finish (k : Take) (before : State) (peer : Option NoticeBody) : State :=
  k.state.giveAll
    (peer.toList ++ (k.granted.map NoticeBody.granted
      ++ viewNotices k.conflicts before.viewWatch 0 before.view k.state.view))

/-! ## Moves of an entry -/

/-- R18: what the move to HELD does to the entry, less its slot. -/
def ClaimEntry.becomeHeld (e : ClaimEntry) : ClaimEntry :=
  { e with state := .held, wasHeld := true, patience := none, resendDue := none }

/-- R18, R45, R100: an entry that is WANTED and announced with an empty awaiting set moves to HELD. Its HOLD replaces an
unsent CLAIM, the GRANTs for the resource are withdrawn, the view gains the own hold, and GRANTED is given. Any other
entry is left as it is. -/
def Take.moveToHeld (k : Take) (r : Resource) : Take :=
  match k.state.entry? r with
  | none => k
  | some e =>
    if e.readyToHold then
      let s := ((k.state.modifyEntry r ClaimEntry.becomeHeld).placeRequest r .hold).withdrawGrants (·.resource == r)
      { k with state := s, granted := insertResource r k.granted }.addHolder r (.own e.seq)
    else k

/-- R25: what entry to RELEASING does to the entry, less its slot. -/
def ClaimEntry.becomeReleasing (reason : CloseReason) (e : ClaimEntry) : ClaimEntry :=
  { e with state := .releasing reason, awaiting := [], waiters := [], resendDue := none, patience := none }

/-- R25: an entry enters RELEASING; its FREE replaces any unsent request. -/
def State.enterReleasing (s : State) (r : Resource) (reason : CloseReason) : State :=
  (s.modifyEntry r (ClaimEntry.becomeReleasing reason)).placeRequest r (.free reason)

/-- R19: place the CLAIM re-send of an entry whose re-send is due, and make re-send due absent. If the slot already holds
an unsent request, that one serves. -/
def State.placeResend (s : State) (r : Resource) : State :=
  match s.entry? r with
  | none => s
  | some e =>
    let t := s.modifyEntry r fun x => { x with resendDue := none }
    if e.slot.unsent.isSome then t else t.placeRequest r .resend

/-- R19, R28, R29: re-send due becomes "now", at which the re-send is placed. -/
def State.resendNow (s : State) (r : Resource) : State :=
  (s.modifyEntry r fun e => { e with resendDue := some .now }).placeResend r

/-- R28, R29: a station joins the awaiting set of a WANTED entry; an announced entry re-sends at once. -/
def State.await (s : State) (r : Resource) (x : Station) : State :=
  match s.entry? r with
  | none => s
  | some e =>
    if e.state = .wanted then
      let t := s.modifyEntry r fun y => { y with awaiting := insertStation x y.awaiting }
      if e.announced then t.resendNow r else t
    else s

/-- R16, R17: a station's answer to the own claim on a resource: counted only by a WANTED, announced entry that awaits
it. -/
def Take.answered (k : Take) (r : Resource) (x : Station) : Take :=
  match k.state.entry? r with
  | none => k
  | some e =>
    if e.state = .wanted ∧ e.announced ∧ x ∈ e.awaiting then
      (k.on fun s => s.modifyEntry r fun y => { y with awaiting := y.awaiting.filter (· != x) }).moveToHeld r
    else k

/-- R37: note a deferred peer claim in the waiters list of an entry that can record it. -/
def ClaimEntry.recordWaiter (e : ClaimEntry) (w : Waiter) : ClaimEntry :=
  if e.waiters.any (fun x => x.station == w.station && x.seq == w.seq) then e
  else { e with waiters := insertWaiter w (e.waiters.filter fun x => x.station != w.station) }

/-! ## Station state and receiver -/

/-- R93: enter a station state with its SESSION notice. -/
def State.enterState (s : State) (st : StationState) (cause : StateCause) (omitting : Option Station) : State :=
  { s with session := { s.session with state := st } }.give (.session st cause omitting)

/-- R121: what is on the line as the receiver changes activity: activity in progress is from then on not counted, and a
round is not open. A span whose start delimiter has not passed yet at START is dropped with the rest (R135, R139), although
R121 and R134 can be read as taking its frame (log 32). -/
def LinePhase.uncount : LinePhase → LinePhase
  | .quiet => .quiet
  | .round _ => .quiet
  | .activity _ => .activity false

/-- R76, R121: the receiver becomes inactive; a frame being received is dropped. -/
def State.deactivate (s : State) : State := { s with line := { s.line with phase := s.line.phase.uncount } }

/-- R137, R139: the receiver becomes active: the round type becomes fixed, and activity in progress is not counted. -/
def State.activate (s : State) : State :=
  { s with line := { s.line with phase := s.line.phase.uncount, roundType := .fixed } }

/-- R79: the entry to LISTENING, with its SESSION notice. -/
def State.enterListening (s : State) (cause : StateCause) (omitting : Option Station) : State :=
  { s with
    session := { s.session with
      incarnation := s.session.incarnation + 1
      heardSet := []
      joinWindow := some s.config.joinMs
      ownPresence := none }
    line := { s.line with roundType := .fixed } }.enterState .listening cause omitting

/-! ## Session ends -/

/-- R31: the notice that an entry gives at session clear. -/
def clearNotice (cause : SessionCause) (e : ClaimEntry) : NoticeBody :=
  if e.showsHeld then
    match cause with
    | .leave => .closed e.resource .released (some .leave)
    | .lapse | .silenced | .duplicate => .revoked e.resource cause
  else
    match e.state with
    | .releasing reason => .closed e.resource reason (some cause)
    | .queued | .wanted | .held => .closed e.resource .abandoned (some cause)

/-- R31, R49, R108, R143: the collections of the session are emptied: claim table, answer queue, view, own-frame slots,
placement order, alternation count, PRESENCE due timer. A frame on the line runs out (R95). -/
def State.clearCollections (s : State) : State :=
  { s with
    claims := { s.claims with table := [] }
    answers := []
    view := viewUnknown
    scheduler := .reset
    line := s.line.cutLoose fun _ => true }

/-- R31: session clear, with one notice for each entry in ascending order of resource. -/
def State.sessionClear (s : State) (cause : SessionCause) : State :=
  (s.giveAll (s.claims.table.map (clearNotice cause))).clearCollections

/-- The session timers stop and the heard set is emptied (R83, R86, R88, R90). -/
def State.stopTimers (s : State) : State :=
  { s with session := { s.session with heardSet := [], joinWindow := none, ownPresence := none } }

/-- R72: the roster is cleared. -/
def State.clearRoster (s : State) : State := { s with roster := [] }

/-- A session end that keeps nothing of the session (R85, R88, R90): session clear, timers stopped, roster cleared. -/
def State.endSession (s : State) (cause : SessionCause) : State := (s.sessionClear cause).stopTimers.clearRoster

/-- R85: a lapse, by a heard list (with the station that omitted the own one) or by the own-presence timer. -/
def State.lapse (s : State) (omitting : Option Station) : State :=
  (s.endSession .lapse).enterListening .lapse omitting

/-- R90: the duplicate-number event. -/
def State.duplicateNumber (s : State) : State :=
  ((s.endSession .duplicate).deactivate).enterState .halted .duplicate none

/-! ## Standing Monitor -/

/-- R152, R159: new fault counts, the standing derived from them, and STANDING if it changes. -/
def State.setCounts (s : State) (sendFaults receiveFaults : Nat) : State :=
  let st := deriveStanding s.standing.standing sendFaults receiveFaults
  let t := { s with standing := { s.standing with sendFaults := sendFaults, receiveFaults := receiveFaults, standing := st } }
  if st = s.standing.standing then t else t.give (.standing st sendFaults receiveFaults)

/-- R157: recovery completes. -/
def State.completeRecovery (s : State) : State :=
  ({ s with standing := .reset }.give (.standing .sound 0 0)).enterListening .recovered none

/-- The recovery progress starts over (R153, R156). -/
def StandingMonitor.noProgress (m : StandingMonitor) : StandingMonitor := { m with recoveryFrames := 0, recoveryQuiet := 0 }

/-- R88: the Session Controller takes a silencing in the station state then current. -/
def State.takeSilencing (s : State) : State :=
  match s.session.state with
  | .member | .announcing | .listening => (s.endSession .silenced).enterState .silent .silenced none
  | .leaving => ((s.endSession .silenced).deactivate).enterState .setup .silenced none
  | .setup | .observing | .silent | .halted => s

/-- R153: silencing: the count becomes 240 and the standing SILENCED, STANDING is given, and the session ends. -/
def State.silence (s : State) : State :=
  ({ s with standing := { s.standing.noProgress with sendFaults := Config.faultTop, standing := .silenced } }.give
    (.standing .silenced Config.faultTop s.standing.receiveFaults)).takeSilencing

/-- R150: an own frame ended in a send fault. -/
def State.countSendFault (s : State) : State :=
  if s.standing.standing = .silenced then s
  else if Config.faultTop < s.standing.sendFaults + Config.sendFaultWeight then s.silence
  else s.setCounts (s.standing.sendFaults + Config.sendFaultWeight) s.standing.receiveFaults

/-- R150: an own frame completed. -/
def State.countCompleted (s : State) : State :=
  if s.standing.standing = .silenced then s
  else s.setCounts (s.standing.sendFaults - 1) s.standing.receiveFaults

/-- R151, R156: a valid frame was taken in. -/
def State.countValid (s : State) : State :=
  if s.session.state = .silent then
    { s with standing := { s.standing with recoveryFrames := s.standing.recoveryFrames + 1, recoveryQuiet := 0 } }
  else s.setCounts s.standing.sendFaults (s.standing.receiveFaults - 1)

/-- R151, R156: a receive fault. -/
def State.countReceiveFault (s : State) : State :=
  if s.session.state = .silent then { s with standing := s.standing.noProgress }
  else s.setCounts s.standing.sendFaults (raiseReceive s.standing.receiveFaults)

/-! ## Roster events -/

/-- The roster entry of a station (R50). -/
def State.member? (s : State) (x : Station) : Option Member := s.roster.find? (·.station == x)

/-- The station is a member with this incarnation (R33, R128). -/
def State.isMember (s : State) (x : Station) (i : Incarnation) : Bool :=
  (s.member? x).any fun m => m.incarnation == i

/-- Change the roster entry of a station. -/
def State.modifyMember (s : State) (x : Station) (f : Member → Member) : State :=
  { s with roster := s.roster.map fun m => if m.station = x then f m else m }

/-- R53: the silence timer is set to 0; a loss that was due does not happen (R60). -/
def Member.restart (m : Member) : Member := { m with silence := 0, lossDue := false, lossMet := none }

/-- R53 for a HOLD for `r`: a loss that was due does not happen (R60), and until the next tick it is noted as met at the view
entry of `r` (R113; log 29). A HOLD that finds no loss due keeps the note of an earlier HOLD and notes nothing for `r`: the
spec speaks of one HOLD and one loss, so this is the model's choice (log 29, DESIGN CHOICE, unsafe). -/
def Member.restartByHold (r : Resource) (m : Member) : Member :=
  { m.restart with lossMet := if m.lossDue then some r else m.lossMet }

/-- A HOLD that met a loss is no longer noted (log 29). -/
def Member.forgetMet (m : Member) : Member := { m with lossMet := none }

/-- R30: the purged member leaves an entry's awaiting set and waiters list. -/
def ClaimEntry.purge (x : Station) (e : ClaimEntry) : ClaimEntry :=
  { e with awaiting := e.awaiting.filter (· != x), waiters := e.waiters.filter fun w => w.station != x }

/-- R30: the purge empties the awaiting set of this WANTED, announced entry. -/
def ClaimEntry.completedByPurge (x : Station) (e : ClaimEntry) : Bool :=
  decide (x ∈ e.awaiting) && (e.purge x).readyToHold

/-- R62: purge a member: it leaves the roster, every awaiting set and waiters list, the answer queue and the view, and
then the entries that this completes become HELD, in ascending order of resource. The view drops the member's holds
before it adds the own ones (R127, R189). -/
def Take.purge (k : Take) (x : Station) : Take :=
  let done := (k.state.claims.table.filter (ClaimEntry.completedByPurge x)).map (·.resource)
  let s := { k.state with
    roster := k.state.roster.filter fun m => m.station != x
    claims := { k.state.claims with table := k.state.claims.table.map (ClaimEntry.purge x) } }
  let k1 := ({ k with state := s.withdrawGrants (·.target == x) }).dropHolders (Holder.isPeer x)
  done.foldl Take.moveToHeld k1

/-- The roster entry that an admission creates (R51); its heard-us flag is computed later (R63). -/
def Member.admitted (h : Header) (p : Presence) : Member :=
  { station := h.source, incarnation := h.incarnation, interest := p.interest, standing := p.standing, heardUs := false,
    held := p.held, silence := 0, lossDue := false, lossMet := none }

/-- R28, R54: enrol a member: the roster gains its entry, and every WANTED entry in its groups awaits it. -/
def State.enrol (s : State) (h : Header) (p : Presence) : State :=
  let wanted := (s.claims.table.filter fun e => e.state == .wanted && inGroups p.interest e.resource).map (·.resource)
  wanted.foldl (fun t r => t.await r h.source)
    { s with roster := insertAsc (fun m => m.station.val) (Member.admitted h p) s.roster }

/-- R56: refresh a member from a PRESENCE of the same incarnation and interest set. -/
def Member.refreshed (p : Presence) (m : Member) : Member :=
  { m.restart with standing := p.standing, held := p.held }

/-- R98: the incarnation sweep of the view. -/
def Take.sweep (k : Take) (h : Header) : Take := k.dropHolders (Holder.isStale h.source h.incarnation)

end Sys2Proof.Machine
end

