-- ==== Sys2Proof/Machine/Host.lean ====
section
/-! DEFINITION. The thirteen host commands: what each does to the part and what it answers (R183), and the Link Port's
part in a command that is taken (R179). -/

namespace Sys2Proof.Machine

/-! ## The Link Port's part -/

/-- A refusal, and an OK with no data (R183). -/
def Response.of (st : Status) : Response := { status := st, data := [] }

/-- R179, R181: a decided command: TURNAROUND begins, the response stands in the response buffer, and fill is driven on
LK_SDO. The receive buffer holds the command frame. -/
def LinkPort.decided (l : LinkPort) (frame : List Byte) (r : Response) : LinkPort :=
  { l with selected := true, phase := .turnaround 0, received := frame, response := r.bytes, sdo := .driven Config.fillByte }

/-- R179: a command that is taken, other than REPEAT, replaces the response record, with its code and check byte. -/
def LinkPort.keep (l : LinkPort) (frame : List Byte) (r : Response) : LinkPort :=
  { l with record := some { code := frame.headD 0, check := crc8 frame, response := r } }

/-- The check byte of this command frame can complete now: RESET_N is released (R176), and where a transaction has
gathered bytes, they are this frame's (R178). Log 5. -/
def State.linkReady (s : State) (frame : List Byte) : Bool :=
  !s.session.resetAsserted && (s.link.phase != .command || s.link.received.isEmpty || s.link.received == frame)

/-- R179: a taken command, one event: the owning block acts and answers, and the Link Port keeps the answer. -/
def State.takeCommand (s : State) (frame : List Byte) (run : State → State × Response) : State :=
  let done := run s
  { done.1 with link := (done.1.link.keep frame done.2).decided frame done.2 }

/-- R184: a taken REPEAT does not replace the record. -/
def State.takeRepeat (s : State) (frame : List Byte) (run : State → State × Response) : State :=
  let done := run s
  { done.1 with link := done.1.link.decided frame done.2 }

/-! ## Session Controller: CONFIGURE, START, LEAVE -/

/-- R75: CONFIGURE. -/
def hostConfigure (a : ConfigureArgs) (s : State) : State × Response :=
  if s.session.state ≠ .setup ∨ s.driverActive then (s, .of .wrongState)
  else
    match configureArg a with
    | none => (s, .of .badValue)
    | some c => ({ s with session := { s.session with config := some c } }, .of .ok)

/-- R77: START. With the standing SILENCED the station enters SILENT and recovery begins (R156). -/
def hostStart (s : State) : State × Response :=
  if s.session.state ≠ .setup then (s, .of .wrongState)
  else if s.session.config.isNone then (s, .of .notConfigured)
  else if s.standing.standing = .silenced then
    ({ s.activate with standing := s.standing.noProgress }.enterState .silent .start none, .of .ok)
  else (s.activate.enterListening .start none, .of .ok)

/-- R86, in MEMBER: session clear with the cause leave; WITHDRAW is requested; the roster is kept. -/
def State.leaveMember (s : State) : State :=
  let t := (s.sessionClear .leave).stopTimers
  { t with scheduler := { t.scheduler with withdraw := .unsent }.place .withdraw }.enterState .leaving .leave none

/-- R86, in LISTENING, ANNOUNCING and OBSERVING: the station leaves without a frame. -/
def State.leaveAtOnce (s : State) : State :=
  (s.clearCollections.stopTimers.clearRoster.deactivate).enterState .setup .leave none

/-- R86: LEAVE. -/
def hostLeave (s : State) : State × Response :=
  match s.session.state with
  | .member => (s.leaveMember, .of .ok)
  | .listening | .announcing | .observing => (s.leaveAtOnce, .of .ok)
  | .setup | .leaving | .silent | .halted => (s, .of .wrongState)

/-! ## Claim Engine: CLAIM, RELEASE, ABANDON -/

/-- R7: the entry that a CLAIM command creates. -/
def ClaimEntry.created (r : Resource) (q : ClaimSeq) (patience : Option Nat) (tick : Nat) : ClaimEntry :=
  { resource := r, seq := q, state := .queued, stamp := none, announced := false, wasHeld := false, awaiting := [],
    waiters := [], patience := patience.map (tick + ·), resendDue := none, resendCount := 0,
    slot := { onLine := none, unsent := none } }

/-- R12: the creation of an entry. -/
def State.createClaim (s : State) (r : Resource) (patience : Option Nat) : State :=
  let q := s.claims.seq + 1
  let e := ClaimEntry.created r q patience s.session.tick
  { s with claims := { s.claims with seq := q, table := insertAsc (fun e => e.resource.val) e s.claims.table } }.placeRequest
    r .firstClaim

/-- R11, checks 4 to 8, on a resource number that is in range. -/
def State.claimCheck (s : State) (r : Resource) : Option Status :=
  if !inGroups s.config.interest r then some .notInterested
  else if s.standing.standing = .impaired then some .impaired
  else if exhausted s.claims.clock then some .exhausted
  else if (s.entry? r).isSome then some .duplicate
  else if Config.claimTableSize ≤ s.claims.table.length then some .tableFull
  else none

/-- R11, R12: CLAIM. -/
def hostClaim (resource patience : BitVec 16) (s : State) : State × Response :=
  if s.session.state ≠ .member ∧ s.session.state ≠ .observing then (s, .of .wrongState)
  else if s.config.role = .observer then (s, .of .role)
  else
    match resourceArg resource with
    | none => (s, .of .badValue)
    | some r =>
      match s.claimCheck r with
      | some st => (s, .of st)
      | none => (s.createClaim r (patienceArg patience), { status := .ok, data := [byteOf (s.claims.seq + 1).val] })

/-- R23: RELEASE. -/
def hostRelease (resource : BitVec 16) (s : State) : State × Response :=
  match resourceArg resource with
  | none => (s, .of .badValue)
  | some r =>
    match s.entry? r with
    | none => (s, .of .noEntry)
    | some e =>
      match e.state with
      | .queued | .wanted => (s, .of .notHeld)
      | .held => (s.enterReleasing r .released, .of .ok)
      | .releasing _ => (s, .of .busy)

/-- R24: ABANDON. -/
def hostAbandon (resource : BitVec 16) (s : State) : State × Response :=
  match resourceArg resource with
  | none => (s, .of .badValue)
  | some r =>
    match s.entry? r with
    | none => (s, .of .noEntry)
    | some e =>
      match e.state with
      | .queued => (s.removeEntry r, .of .ok)
      | .wanted => (s.enterReleasing r .abandoned, .of .ok)
      | .held => (s, .of .held)
      | .releasing _ => (s, .of .busy)

/-! ## QUERY, ROSTER, PEER -/

/-- R192: the claim part of QUERY. Bits 7 to 3 of its flags byte, which the spec does not name, are sent as 0 (log 33). -/
def claimPart (tick : Nat) (e : ClaimEntry) : List Byte :=
  let left := e.patienceLeft tick
  let head :=
    match e.waiters with
    | [] => bytesBE 8 0
    | w :: _ => [byteOf w.station.val, byteOf w.seq.val] ++ bytesBE 6 w.stamp.toNat
  [e.state.code, byteOf e.seq.val] ++ bytesBE 6 ((e.stamp.map BitVec.toNat).getD 0)
    ++ [byteOf (bitOf e.announced + 2 * bitOf e.wasHeld + 4 * bitOf left.isSome), e.state.closeByte,
        byteOf e.awaiting.length, byteOf e.waiters.length]
    ++ head ++ [byteOf e.resendCount] ++ bytesBE 2 (left.getD 0) ++ e.awaiting.map fun x => byteOf x.val

/-- R112, R192: the view part of QUERY. -/
def viewPart (r : Resource) (v : ViewEntry) : List Byte :=
  [byteOf r.val, v.shownState.code] ++ holderBytes v.first ++ holderBytes v.latest

/-- R112: QUERY. -/
def hostQuery (resource : BitVec 16) (s : State) : State × Response :=
  match resourceArg resource with
  | none => (s, .of .badValue)
  | some r =>
    (s, { status := .ok,
          data := viewPart r (viewAt s.view r) ++ ((s.entry? r).map (claimPart s.session.tick)).getD [] })

/-- R192: one record of ROSTER. -/
def rosterRecord (m : Member) : List Byte :=
  [byteOf m.station.val, byteOf m.incarnation.val] ++ bytesBE 2 m.interest.toNat
    ++ [advertisedCode m.standing] ++ bytesBE 2 m.silence ++ [byteOf m.held.length]

/-- R70: ROSTER. -/
def hostRoster (s : State) : State × Response :=
  (s, { status := .ok, data := s.roster.flatMap rosterRecord })

/-- R192: the data of PEER. -/
def peerRecord (m : Member) : List Byte :=
  [byteOf m.station.val, byteOf m.incarnation.val] ++ bytesBE 2 m.interest.toNat
    ++ [advertisedCode m.standing, byteOf (bitOf m.heardUs)] ++ bytesBE 2 m.silence
    ++ [byteOf m.held.length] ++ heldBytes m.held

/-- R71: PEER. -/
def hostPeer (station : Byte) (s : State) : State × Response :=
  match stationArg station with
  | none => (s, .of .badValue)
  | some x =>
    match s.member? x with
    | none => (s, .of .noEntry)
    | some m => (s, { status := .ok, data := peerRecord m })

/-! ## FETCH, DISMISS -/

/-- The queue fill and the flags byte (R192). -/
def NoticeQueue.tailBytes (q : NoticeQueue) : List Byte := [byteOf q.queue.length, q.flagsByte]

/-- R172: FETCH. -/
def hostFetch (s : State) : State × Response :=
  match s.notices.queue with
  | [] => (s, .of .empty)
  | n :: _ => (s, { status := .ok, data := n.bytes ++ s.notices.tailBytes })

/-- R169: the SUMMARY of the session. -/
def State.summarySession (s : State) : NoticeBody :=
  .summarySession s.session.state s.session.incarnation s.standing.standing s.standing.sendFaults
    s.standing.receiveFaults s.claims.table.length

/-- R170: the SUMMARY of a station. -/
def State.summaryStation (s : State) (x : Station) : NoticeBody :=
  .summaryStation x ((s.member? x).map fun m =>
    { incarnation := m.incarnation, standing := m.standing, heardUs := m.heardUs, heldCount := m.held.length })

/-- R171: the SUMMARY of a resource. -/
def State.summaryResource (s : State) (r : Resource) : NoticeBody :=
  let v := viewAt s.view r
  .summaryResource r v.shownState (v.first.map Holder.identity) (v.latest.map Holder.identity)
    ((s.entry? r).map fun e => { state := e.state, seq := e.seq })

/-- R168: the SUMMARY of the first set mark enters the queue, and the mark is cleared. With no mark set the place stays
free, and ATTN follows the queue (R174). `q` is the queue without its head. -/
def State.summarise (s : State) (q : NoticeQueue) : NoticeQueue :=
  if q.sessionMark then { q with sessionMark := false }.enter s.summarySession
  else
    match q.stationMarks with
    | x :: rest => { q with stationMarks := rest }.enter (s.summaryStation x)
    | [] =>
      match q.resourceMarks with
      | r :: rest => { q with resourceMarks := rest }.enter (s.summaryResource r)
      | [] => { q with attn := !q.queue.isEmpty }

/-- R172: DISMISS. -/
def hostDismiss (number : Byte) (s : State) : State × Response :=
  match s.notices.queue with
  | [] => (s, .of .empty)
  | n :: rest =>
    if n.number.val = number.toNat then
      let q := s.summarise { s.notices with queue := rest }
      ({ s with notices := q }, { status := .ok, data := q.tailBytes })
    else (s, .of .stale)

/-! ## STATUS, REPEAT -/

/-- R192: the configuration's eight bytes, all 0 while unset. -/
def configBytes : Option ConfigRecord → List Byte
  | none => bytesBE 8 0
  | some c =>
    [c.rate.code, byteOf c.period, byteOf c.lossLimit, byteOf c.reply] ++ bytesBE 2 c.interest.toNat
      ++ bytesBE 2 c.watch.toNat

/-- R185, R192: the data of STATUS. Bits 7 to 2 of its flags byte, which the spec does not name, are sent as 0 (log 33). -/
def State.statusBytes (s : State) : List Byte :=
  [s.session.state.code, (s.session.config.map fun c => c.role.code).getD 0xFF, byteOf s.session.number.val,
   byteOf s.session.incarnation.val]
    ++ [s.standing.standing.code, byteOf s.standing.sendFaults, byteOf s.standing.receiveFaults,
        byteOf s.standing.recoveryFrames] ++ bytesBE 2 s.standing.recoveryQuiet
    ++ bytesBE 6 s.claims.clock.toNat
    ++ [byteOf s.claims.table.length, byteOf s.answers.length, byteOf s.notices.queue.length,
        byteOf (bitOf s.notices.marksPending + 2 * bitOf s.session.config.isSome)]
    ++ configBytes s.session.config

/-- R185: STATUS. -/
def hostStatus (s : State) : State × Response := (s, { status := .ok, data := s.statusBytes })

/-- R184: what REPEAT answers from the record. -/
def repeatAnswer : Option ResponseRecord → Response
  | none => .of .empty
  | some r => { status := r.response.status, data := [r.code, r.check] ++ r.response.data }

/-- R184: REPEAT. -/
def hostRepeat (s : State) : State × Response := (s, repeatAnswer s.link.record)

/-! ## The commands as taken -/

/-- R179: a taken command handed to its owner; a command that is not a host command is never taken. -/
def State.runCommand (s : State) (c : Instr) : State :=
  let frame := linkFrame c
  match c with
  | .configure a => s.takeCommand frame (hostConfigure a)
  | .start => s.takeCommand frame hostStart
  | .leave => s.takeCommand frame hostLeave
  | .claim r p => s.takeCommand frame (hostClaim r p)
  | .release r => s.takeCommand frame (hostRelease r)
  | .abandon r => s.takeCommand frame (hostAbandon r)
  | .query r => s.takeCommand frame (hostQuery r)
  | .roster => s.takeCommand frame hostRoster
  | .peer x => s.takeCommand frame (hostPeer x)
  | .fetch => s.takeCommand frame hostFetch
  | .dismiss n => s.takeCommand frame (hostDismiss n)
  | .status => s.takeCommand frame hostStatus
  | .repeatLast => s.takeRepeat frame hostRepeat
  | .linkTransactionError _ _ | .transactionBegin | .transactionEnd | .fullReset | .resetRelease _ | .tick
  | .receivePresence _ _ | .receiveClaim _ _ _ _ | .receiveGrant _ _ _ _ | .receiveHold _ _ _ | .receiveFree _ _ _ _
  | .receiveWithdraw _ | .receiveFault _ | .carrierDetected | .quietGapElapsed | .ownSlot | .sendFault _
  | .claimFrameComplete | .claimResendComplete | .holdComplete | .freeComplete | .grantComplete | .presenceComplete
  | .withdrawComplete | .joinWindowEnd | .ownPresenceLapse | .loss | .patienceExpiry | .resendDue | .presenceDue
  | .recoveryQuietSpan | .byteClocked _ | .endOfUncountedActivity => s

/-- A host command as a step: the check byte's edge of its frame, where it can complete (R179); nothing otherwise. -/
def State.hostStep (s : State) (frame : List Byte) (take : State → State) : Host.Outcome State Fault Refusal :=
  .next (if s.linkReady frame then take s else s)

/-- CONFIGURE (R75). -/
def execConfigure (a : ConfigureArgs) (s : State) : Host.Outcome State Fault Refusal :=
  s.hostStep (linkFrame (.configure a)) fun t => t.takeCommand (linkFrame (.configure a)) (hostConfigure a)

/-- START (R77). -/
def execStart (s : State) : Host.Outcome State Fault Refusal :=
  s.hostStep (linkFrame .start) fun t => t.takeCommand (linkFrame .start) hostStart

/-- LEAVE (R86). -/
def execLeave (s : State) : Host.Outcome State Fault Refusal :=
  s.hostStep (linkFrame .leave) fun t => t.takeCommand (linkFrame .leave) hostLeave

/-- CLAIM (R11, R12). -/
def execClaim (r p : BitVec 16) (s : State) : Host.Outcome State Fault Refusal :=
  s.hostStep (linkFrame (.claim r p)) fun t => t.takeCommand (linkFrame (.claim r p)) (hostClaim r p)

/-- RELEASE (R23). -/
def execRelease (r : BitVec 16) (s : State) : Host.Outcome State Fault Refusal :=
  s.hostStep (linkFrame (.release r)) fun t => t.takeCommand (linkFrame (.release r)) (hostRelease r)

/-- ABANDON (R24). -/
def execAbandon (r : BitVec 16) (s : State) : Host.Outcome State Fault Refusal :=
  s.hostStep (linkFrame (.abandon r)) fun t => t.takeCommand (linkFrame (.abandon r)) (hostAbandon r)

/-- QUERY (R112). -/
def execQuery (r : BitVec 16) (s : State) : Host.Outcome State Fault Refusal :=
  s.hostStep (linkFrame (.query r)) fun t => t.takeCommand (linkFrame (.query r)) (hostQuery r)

/-- ROSTER (R70). -/
def execRoster (s : State) : Host.Outcome State Fault Refusal :=
  s.hostStep (linkFrame .roster) fun t => t.takeCommand (linkFrame .roster) hostRoster

/-- PEER (R71). -/
def execPeer (x : Byte) (s : State) : Host.Outcome State Fault Refusal :=
  s.hostStep (linkFrame (.peer x)) fun t => t.takeCommand (linkFrame (.peer x)) (hostPeer x)

/-- FETCH (R172). -/
def execFetch (s : State) : Host.Outcome State Fault Refusal :=
  s.hostStep (linkFrame .fetch) fun t => t.takeCommand (linkFrame .fetch) hostFetch

/-- DISMISS (R172). -/
def execDismiss (n : Byte) (s : State) : Host.Outcome State Fault Refusal :=
  s.hostStep (linkFrame (.dismiss n)) fun t => t.takeCommand (linkFrame (.dismiss n)) (hostDismiss n)

/-- STATUS (R185). -/
def execStatus (s : State) : Host.Outcome State Fault Refusal :=
  s.hostStep (linkFrame .status) fun t => t.takeCommand (linkFrame .status) hostStatus

/-- REPEAT (R184). -/
def execRepeat (s : State) : Host.Outcome State Fault Refusal :=
  s.hostStep (linkFrame .repeatLast) fun t => t.takeRepeat (linkFrame .repeatLast) hostRepeat

end Sys2Proof.Machine
end

