-- ==== Sys2Proof/Machine/Link.lean ====
section
/-! DEFINITION. The Link Port's own commands: the edges of LK_SEL, the bytes that the host clocks, and a transaction whose
check byte decides an error (chapter 10). -/

namespace Sys2Proof.Machine

/-- R179, R182: the check byte of a whole command frame completes. An error answers with its status and leaves the record
and every other block as they were. -/
def State.checkByte (s : State) (frame : List Byte) (check : Byte) : State :=
  match linkVerdict frame check with
  | .error status => { s with link := s.link.decided frame (.of status) }
  | .taken c => s.runCommand c

/-- LINK_TRANSACTION_ERROR (R182): the frame's bytes and its check byte, which fail a test of R179. Log 6: where they
pass all three, the command is taken. -/
def execLinkTransactionError (frame : List Byte) (check : Byte) (s : State) : Host.Outcome State Fault Refusal :=
  .next (if s.linkReady frame && commandWhole frame then s.checkByte frame check else s)

/-- R177: the falling edge at a part that sees its link: both buffers are emptied, COMMAND begins, LK_SDO is driven. -/
def LinkPort.select (l : LinkPort) : LinkPort :=
  { l with selected := true, phase := .command, received := [], response := [], sdo := .driven Config.fillByte }

/-- TRANSACTION_BEGIN (R177). While RESET_N is asserted only the pin falls (R176); a selected part has no falling edge
(log 4). -/
def execTransactionBegin (s : State) : Host.Outcome State Fault Refusal :=
  .next
    (if s.link.selected then s
     else if s.session.resetAsserted then { s with link := { s.link with selected := true } }
     else { s with link := s.link.select })

/-- R177, R180: the rising edge: IDLE from any phase, LK_SDO high impedance; a command still in COMMAND is dropped. -/
def LinkPort.deselect (l : LinkPort) : LinkPort :=
  { l with selected := false, phase := .idle, sdo := .highImpedance,
           received := if l.phase = .command then [] else l.received }

/-- TRANSACTION_END (R177, R180). -/
def execTransactionEnd (s : State) : Host.Outcome State Fault Refusal :=
  .next (if s.link.selected then { s with link := s.link.deselect } else s)

/-- R181: one more turnaround byte: fill is driven, and the second byte ends the turnaround. -/
def LinkPort.turn (l : LinkPort) (clocked : Nat) : LinkPort :=
  { l with
    phase := if clocked + 1 < Config.turnaroundBytes then .turnaround (clocked + 1) else .response 0
    sdo := .driven Config.fillByte }

/-- R181: one more byte of the response frame; after its check byte DONE begins. -/
def LinkPort.respond (l : LinkPort) (sent : Nat) : LinkPort :=
  { l with
    phase := if sent + 1 < l.response.length then .response (sent + 1) else .done
    sdo := .driven (l.response.getD sent Config.fillByte) }

/-- R178: one more byte of the command frame, while fill is driven. -/
def LinkPort.gather (l : LinkPort) (b : Byte) : LinkPort :=
  { l with received := l.received ++ [b], sdo := .driven Config.fillByte }

/-- BYTE_CLOCKED_BY_HOST (R178, R179, R181): in COMMAND the byte is the next of the frame, or its check byte (log 6). A
port in IDLE takes no byte (R176). -/
def execByteClocked (b : Byte) (s : State) : Host.Outcome State Fault Refusal :=
  .next
    (match s.link.phase with
     | .idle => s
     | .command =>
       if commandWhole s.link.received then s.checkByte s.link.received b else { s with link := s.link.gather b }
     | .turnaround n => { s with link := s.link.turn n }
     | .response k => { s with link := s.link.respond k }
     | .done => { s with link := { s.link with sdo := .driven Config.fillByte } })

end Sys2Proof.Machine
end

