-- ==== Sys2Proof/Machine/Expiry.lean ====
section
/-! DEFINITION. The timer expiries that the table lists as commands of their own (R19, R21, R60, R81, R83, R146, R156).
Each acts when its timer has run out and no step has taken it yet, and changes nothing otherwise (log 3, log 4). -/

namespace Sys2Proof.Machine

/-! ## End of the join window -/

/-- R81, R107: what the window's end does before the role decides: the incarnation is fixed, the heard set emptied, and
every UNKNOWN view entry becomes FREE. -/
def State.endWindow (s : State) : State :=
  { s with
    session := { s.session with joinWindow := none, heardSet := [] }
    view := s.view.map ViewEntry.endWindow }

/-- R146: a PRESENCE request is placed in an empty PRESENCE slot. -/
def SendScheduler.requestPresence (c : SendScheduler) : SendScheduler :=
  if c.presence = .empty then { c with presence := .unsent }.place .presence else c

/-- R81: the end of the join window. -/
def State.joinWindowEnd (s : State) : State :=
  if s.session.state = .listening ∧ s.session.joinWindow = some 0 then
    match s.config.role with
    | .contender =>
      { s.endWindow with scheduler := s.scheduler.requestPresence }.enterState .announcing .window none
    | .observer => s.endWindow.enterState .observing .window none
  else s

/-- JOIN_WINDOW_END (R81). -/
def execJoinWindowEnd (s : State) : Host.Outcome State Fault Refusal := .next s.joinWindowEnd

/-! ## Own presence lapse -/

/-- R83: the own-presence timer has reached (L − 1) × P. -/
def State.ownPresenceReached (s : State) : Bool :=
  s.session.state == .member && s.session.ownPresence.any fun n => decide (s.config.lapseMs ≤ n)

/-- R83, R85: the own presence lapse. -/
def State.ownPresenceLapse (s : State) : State := if s.ownPresenceReached then s.lapse none else s

/-- OWN_PRESENCE_LAPSE (R83). -/
def execOwnPresenceLapse (s : State) : Host.Outcome State Fault Refusal := .next s.ownPresenceLapse

/-! ## Loss -/

/-- R60: the loss of a member, with its PEER notice and those of the purge. -/
def State.loseMember (s : State) (m : Member) : State :=
  (s.begin.purge m.station).finish s (some (.peer m.station .lost m.incarnation))

/-- The lowest-numbered member whose HOLD met its loss, with the resource of that HOLD (log 29). -/
def State.metLoss? (s : State) : Option (Station × Resource) :=
  s.roster.findSome? fun m => m.lossMet.map fun r => (m.station, r)

/-- R113, row "HOLD from X; loss of X", HOLD first: the view entry drops the hold of X. The roster keeps X, whose loss does not
happen (R60): each rule gives the outcome for the state that it owns (log 29). -/
def State.dropMetHold (s : State) (x : Station) (r : Resource) : State :=
  ((s.modifyMember x Member.forgetMet).begin.on fun t => { t with view := dropAt r (Holder.isPeer x) t.view }).finish s none

/-- R60, R113: the loss of the lowest-numbered member whose loss is due; with none due, what a loss that a HOLD has met does
at the view entry. -/
def State.lossStep (s : State) : State :=
  match s.roster.find? Member.lossDue, s.metLoss? with
  | some m, _ => s.loseMember m
  | none, some (x, r) => s.dropMetHold x r
  | none, none => s

/-- No HOLD that met a loss is noted any longer (log 29). -/
def State.forgetMet (s : State) : State := { s with roster := s.roster.map Member.forgetMet }

/-- LOSS (R60, R113). -/
def execLoss (s : State) : Host.Outcome State Fault Refusal := .next s.lossStep

/-! ## Patience expiry -/

/-- R21: an entry whose expiry can be taken: its deadline is reached while it counts, in QUEUED or WANTED. -/
def ClaimEntry.expires (tick : Nat) (e : ClaimEntry) : Bool :=
  (e.state == .queued || e.state == .wanted) && e.patienceReached tick

/-- R21: the expiry of one entry. -/
def State.expireEntry (s : State) (e : ClaimEntry) : State :=
  if e.state = .queued then (s.removeEntry e.resource).give (.closed e.resource .expired none)
  else s.enterReleasing e.resource .expired

/-- R21: the expiry of the lowest-numbered resource whose expiry can be taken. -/
def State.patienceStep (s : State) : State :=
  match s.claims.table.find? (ClaimEntry.expires s.session.tick) with
  | none => s
  | some e => s.expireEntry e

/-- PATIENCE_EXPIRY (R21). -/
def execPatienceExpiry (s : State) : Host.Outcome State Fault Refusal := .next s.patienceStep

/-! ## Re-send due -/

/-- R19: an entry whose re-send is due: WANTED with announced yes and a non-empty awaiting set, its due time reached. -/
def ClaimEntry.resends (tick : Nat) (e : ClaimEntry) : Bool :=
  e.state == .wanted && e.announced && !e.awaiting.isEmpty && e.resendReached tick

/-- R19: the re-send of the lowest-numbered resource whose due time is reached. -/
def State.resendStep (s : State) : State :=
  match s.claims.table.find? (ClaimEntry.resends s.session.tick) with
  | none => s
  | some e => s.placeResend e.resource

/-- RESEND_DUE (R19). -/
def execResendDue (s : State) : Host.Outcome State Fault Refusal := .next s.resendStep

/-! ## PRESENCE due -/

/-- R146: the expiry of the PRESENCE due timer. -/
def State.presenceStep (s : State) : State :=
  if s.scheduler.presenceDue = some 0 then
    { s with scheduler := { s.scheduler with presenceDue := none }.requestPresence }
  else s

/-- PRESENCE_DUE (R146). -/
def execPresenceDue (s : State) : Host.Outcome State Fault Refusal := .next s.presenceStep

/-! ## Recovery by quiet -/

/-- R157: the recovery quiet count has reached 4 × P in SILENT. -/
def State.quietReached (s : State) : Bool :=
  s.session.state == .silent && decide (s.config.recoveryMs ≤ s.standing.recoveryQuiet)

/-- R157: recovery by an unbroken quiet span. -/
def State.recoveryStep (s : State) : State := if s.quietReached then s.completeRecovery else s

/-- RECOVERY_QUIET_SPAN (R156). -/
def execRecoveryQuietSpan (s : State) : Host.Outcome State Fault Refusal := .next s.recoveryStep

/-! ## All that are left -/

/-- Log 3: the expiries that no step has taken, in the order of the list of R78: at most 31 losses, and at most 16
expiries and re-sends. A loss that a HOLD has met is none of them (R60, log 29). -/
def State.settle (s : State) : State :=
  let a := s.forgetMet.joinWindowEnd.ownPresenceLapse
  let b := State.lossStep^[31] a
  let c := State.resendStep^[Config.claimTableSize] (State.patienceStep^[Config.claimTableSize] b)
  c.recoveryStep.presenceStep

end Sys2Proof.Machine
end

