-- ==== Sys2Proof/Machine/Tick.lean ====
section
/-! DEFINITION. Full reset, its release, and the 1 ms tick (R76, R78). -/

namespace Sys2Proof.Machine

/-! ## Full reset -/

/-- What is on the line goes on while the receiver is inactive (R76, R121). -/
def LineInterface.underReset (l : LineInterface) : LineInterface :=
  match l.phase with
  | .activity _ => { LineInterface.reset with phase := .activity false }
  | .quiet => .reset
  | .round _ => .reset

/-- FULL_RESET (R76, R176): every item takes its full reset value and RESET_N stands asserted. The own frame on the line
is cut short and nothing is counted. LK_SEL and the line are inputs, and stay as they are (log 14); the station number
reads 0 until the release latches it (log 13). -/
def execFullReset (s : State) : Host.Outcome State Fault Refusal :=
  .next { State.reset with
    session := { SessionController.reset with resetAsserted := true }
    line := s.line.underReset
    link := { LinkPort.reset with selected := s.link.selected }
    pending := s.pending }

/-- RESET_RELEASE (R76, R78): the straps are latched and the tick starts. A part whose RESET_N is not asserted has no
release (log 4). -/
def execResetRelease (straps : Station) (s : State) : Host.Outcome State Fault Refusal :=
  .next
    (if s.session.resetAsserted then
      { s with session := { s.session with resetAsserted := false, number := straps, tick := 0 } }
     else s)

/-! ## The tick -/

/-- R53, R60: one millisecond more of silence; where the timer would rise above L × P, the loss is due. -/
def Member.silent (limit : Nat) (m : Member) : Member :=
  if m.silence < limit then { m with silence := m.silence + 1 } else { m with lossDue := true }

/-- R78, R79, R83: the tick at the Session Controller's timers. -/
def SessionController.advance (c : SessionController) (lapseMs : Nat) : SessionController :=
  { c with
    tick := c.tick + 1
    joinWindow := c.joinWindow.map (· - 1)
    ownPresence := c.ownPresence.map fun n => min lapseMs (n + 1) }

/-- R156: the line was quiet from the start of the tick to its end. -/
def LineInterface.quietTick (l : LineInterface) : Bool :=
  !l.carrierInTick && l.onLine.isNone &&
    match l.phase with
    | .quiet | .round _ => true
    | .activity _ => false

/-- What is on the line as a tick begins (R156, log 15). -/
def LineInterface.busy (l : LineInterface) : Bool :=
  l.onLine.isSome ||
    match l.phase with
    | .quiet | .round _ => false
    | .activity _ => true

/-- R156: the tick at the recovery quiet count. -/
def StandingMonitor.advance (m : StandingMonitor) (quiet : Bool) (limit : Nat) : StandingMonitor :=
  if quiet then { m with recoveryQuiet := min limit (m.recoveryQuiet + 1) } else m

/-- R78: one millisecond at every timer of the part. -/
def State.advance (s : State) : State :=
  { s with
    session := s.session.advance s.config.lapseMs
    roster := s.roster.map (Member.silent s.config.lossMs)
    standing := s.standing.advance (s.session.state == .silent && s.line.quietTick) s.config.recoveryMs
    scheduler := { s.scheduler with presenceDue := s.scheduler.presenceDue.map (· - 1) }
    line := { s.line with carrierInTick := s.line.busy } }

/-- TICK (R78): the expiries left from the tick before, then one millisecond at every timer. The tick does not run while
RESET_N is asserted. -/
def execTick (s : State) : Host.Outcome State Fault Refusal :=
  .next (if s.session.resetAsserted then s else s.settle.advance)

end Sys2Proof.Machine
end

