-- ==== Sys2Proof/Machine/Receive.lean ====
section
/-! DEFINITION. What the line brings: received frames part by part (R127), receive faults, carrier, the quiet gap and
activity that is not counted (chapters 2, 3, 5, 6 and 7). -/

namespace Sys2Proof.Machine

/-! ## The end of a span of activity -/

/-- R134, R135, R137: a frame end sets the round state, and the gap is counted from it. -/
def LineInterface.frameEnd (l : LineInterface) (t : RoundType) (b : Station) : LineInterface :=
  { l with phase := .quiet, roundType := t, base := b, carrierInTick := true }

/-- R121, R137: the end of activity that is not counted; the round state belongs to an active receiver. -/
def State.endUncounted (s : State) : State :=
  { s with line :=
      { s.line with
        phase := .quiet
        roundType := if s.session.state.receiverActive then .fixed else s.line.roundType
        carrierInTick := true } }

/-- The activity in progress is over, at a receiver that is inactive (R121). -/
def LinePhase.ended : LinePhase → LinePhase
  | .activity _ => .quiet
  | .quiet => .quiet
  | .round k => .round k

/-- R121: how a span of activity that ends reaches the receiver: not at all while it is inactive, not while the station
sends, not counted when its start was not seen, and otherwise as `take` says. -/
def State.spanEnds (s : State) (take : State → State) : State :=
  if !s.session.state.receiverActive then { s with line := { s.line with phase := s.line.phase.ended } }
  else if s.driverActive then s
  else if s.line.phase = .activity false then s.endUncounted
  else take s

/-- R122, R137, R151, R156: a receive fault. -/
def State.takeFault (s : State) : State :=
  { s with line := s.line.frameEnd .fixed s.line.base }.countReceiveFault

/-! ## Answering a peer's CLAIM (chapter 2) -/

/-- R33, conditions 1, 2, 4 and 5: the claim is answered. (Condition 3 is the frame's validity.) -/
def State.answers? (s : State) (h : Header) (r : Resource) : Bool :=
  s.session.state == .member && s.config.role == .contender && s.isMember h.source h.incarnation
    && inGroups s.config.interest r

/-- R35: the decision. -/
inductive AnswerDecision where
  | grant
  | defer
  deriving DecidableEq, Repr

/-- R35: the decision on the peer claim (t, P) against the own entry for its resource. -/
def answerDecision (own : Station) (entry : Option ClaimEntry) (t : Clock) (p : Station) : AnswerDecision :=
  match entry with
  | none => .grant
  | some e =>
    match e.state, e.stamp with
    | .queued, _ => .grant
    | .wanted, some st => if outranks t p st own then .grant else .defer
    | .wanted, none => .grant
    | .held, _ => .defer
    | .releasing _, _ => .grant

/-- R38: a stale waiters item of the claimant leaves a WANTED entry. -/
def ClaimEntry.dropStaleWaiter (p : Station) (q : ClaimSeq) (e : ClaimEntry) : ClaimEntry :=
  if e.state = .wanted then { e with waiters := e.waiters.filter fun w => !(w.station == p && w.seq != q) } else e

/-- R39: the claimant must be put back into the awaiting set of this entry. -/
def ClaimEntry.reawaits (p : Station) (e : ClaimEntry) : Bool :=
  e.state == .wanted && e.announced && decide (p ∉ e.awaiting)

/-- R38 to R41: a GRANT decision. The queue that is full drops it with all that follows from it (log 16). -/
def State.grantClaim (s : State) (p : Station) (r : Resource) (q : ClaimSeq) : State :=
  match joinAnswers s.answers { target := p, resource := r, seq := q } with
  | none => s
  | some queue =>
    let t := { s with answers := queue }.modifyEntry r (ClaimEntry.dropStaleWaiter p q)
    if (s.entry? r).any (ClaimEntry.reawaits p) then t.await r p else t

/-- R36, R37: a deferral, recorded where the entry can record it. -/
def State.deferClaim (s : State) (p : Station) (r : Resource) (q : ClaimSeq) (t : Clock) : State :=
  s.modifyEntry r fun e =>
    if e.recordsDeferrals then e.recordWaiter { station := p, stamp := t, seq := q } else e

/-- R33, R35: the Answer Unit takes a CLAIM. -/
def State.answerClaim (s : State) (h : Header) (r : Resource) (q : ClaimSeq) (t : Clock) : State :=
  if s.answers? h r then
    match answerDecision s.session.number (s.entry? r) t h.source with
    | .grant => s.grantClaim h.source r q
    | .defer => s.deferClaim h.source r q t
  else s

/-- R43, R47: the Answer Unit takes a FREE from a member: its GRANTs and its waiters item for the resource go. -/
def State.answerFree (s : State) (h : Header) (r : Resource) : State :=
  if s.isMember h.source h.incarnation then
    (s.withdrawGrants fun g => g.target == h.source && g.resource == r).modifyEntry r fun e =>
      { e with waiters := e.waiters.filter fun w => w.station != h.source }
  else s

/-! ## The roster's event (R52) -/

/-- R54, R56, R57, R58: the roster event of a PRESENCE, with its PEER notice. -/
def Take.rosterPresence (k : Take) (h : Header) (p : Presence) : Take × Option NoticeBody :=
  match k.state.member? h.source with
  | none => (k.on fun s => s.enrol h p, some (.peer h.source .joined h.incarnation))
  | some m =>
    if m.incarnation = h.incarnation ∧ m.interest = p.interest then
      (k.on fun s => s.modifyMember h.source (Member.refreshed p), none)
    else ((k.purge h.source).on fun s => s.enrol h p, some (.peer h.source .renewed h.incarnation))

/-- R52, R53, R59: the roster event of a CLAIM, GRANT, HOLD or FREE, with its PEER notice; `restart` is what the frame does to
the entry of its incarnation. -/
def Take.rosterOther (k : Take) (restart : Member → Member) (h : Header) : Take × Option NoticeBody :=
  match k.state.member? h.source with
  | none => (k, none)
  | some m =>
    if m.incarnation = h.incarnation then (k.on fun s => s.modifyMember h.source restart, none)
    else (k.purge h.source, some (.peer h.source .lost m.incarnation))

/-- R52, R59, R61: the roster event of a WITHDRAW, with its PEER notice. -/
def Take.rosterWithdraw (k : Take) (h : Header) : Take × Option NoticeBody :=
  match k.state.member? h.source with
  | none => (k, none)
  | some m =>
    (k.purge h.source,
      some (.peer h.source (if m.incarnation = h.incarnation then .left else .lost) m.incarnation))

/-- The pairs of a heard list for the own station number (R63, R64). -/
def ownPairs (own : Station) (p : Presence) : List (Station × Incarnation) := p.heard.filter fun q => q.1 == own

/-- R63: the heard list lists the own station with the own incarnation. -/
def hearsUs (c : SessionController) (p : Presence) : Bool :=
  p.heard.any fun q => q.1 == c.number && q.2 == c.incarnation

/-- R64, R80: in LISTENING, each incarnation listed for the own number is reported. -/
def SessionController.reports (c : SessionController) (p : Presence) : SessionController :=
  if c.state = .listening then (ownPairs c.number p).foldl (fun d q => d.report q.2) c else c

/-- R63, R64: the report of own-number incarnations, and after it the heard-us flag. -/
def State.hearOwn (s : State) (h : Header) (p : Presence) : State :=
  let c := s.session.reports p
  { s with session := c }.modifyMember h.source fun m => { m with heardUs := hearsUs c p }

/-! ## The kinds (R127, parts 4 to 7) -/

/-- R98, R104: the View Table takes a PRESENCE. -/
def Take.viewPresence (k : Take) (h : Header) (p : Presence) : Take :=
  let swept := (k.sweep h).on fun s => { s with view := dropUnlisted h.source p.held 0 s.view }
  p.held.foldl (fun t r => t.addHolder r (.peer h.source h.incarnation .presence)) swept

/-- R63, R84: in MEMBER a heard-list omission is a lapse. -/
def State.omission (s : State) (h : Header) (p : Presence) : State :=
  if s.session.state = .member ∧ hearsUs s.session p = false then s.lapse (some h.source) else s

/-- R127: parts 4 to 7 of a PRESENCE. -/
def State.takePresence (s : State) (h : Header) (p : Presence) : State :=
  let roster := s.begin.rosterPresence h p
  (((roster.1.on fun t => t.hearOwn h p).viewPresence h p).finish s roster.2).omission h p

/-- R127: parts 4 to 6 of a CLAIM. -/
def State.takeClaim (s : State) (h : Header) (r : Resource) (q : ClaimSeq) (t : Clock) : State :=
  let roster := s.begin.rosterOther Member.restart h
  (roster.1.on fun u => u.answerClaim h r q t).finish s roster.2

/-- R16: a GRANT that targets the own station and matches an entry's resource and sequence is an answer. -/
def Take.grantReceived (k : Take) (h : Header) (target : Station) (r : Resource) (q : ClaimSeq) : Take :=
  if target = k.state.session.number ∧ (k.state.entry? r).any (fun e => e.seq == q) then k.answered r h.source else k

/-- R127: parts 4 to 6 of a GRANT. -/
def State.takeGrant (s : State) (h : Header) (target : Station) (r : Resource) (q : ClaimSeq) : State :=
  let roster := s.begin.rosterOther Member.restart h
  (roster.1.grantReceived h target r q).finish s roster.2

/-- R127: parts 4 to 6 of a HOLD. One that comes first at its member's due loss is noted in the roster (R60, R113: log 29). -/
def State.takeHold (s : State) (h : Header) (r : Resource) (q : ClaimSeq) : State :=
  let roster := s.begin.rosterOther (Member.restartByHold r) h
  ((roster.1.sweep h).addHolder r (.peer h.source h.incarnation (.hold q))).finish s roster.2

/-- R127: parts 4 to 6 of a FREE. The view drops the peer's hold before it gains the own one. -/
def State.takeFree (s : State) (h : Header) (r : Resource) : State :=
  let roster := s.begin.rosterOther Member.restart h
  let viewed := (roster.1.sweep h).on fun t => { t with view := dropAt r (Holder.isPeer h.source) t.view }
  ((viewed.answered r h.source).on fun t => t.answerFree h r).finish s roster.2

/-- R127: part 4 of a WITHDRAW, with its notices. -/
def State.takeWithdraw (s : State) (h : Header) : State :=
  let roster := s.begin.rosterWithdraw h
  roster.1.finish s roster.2

/-- R127: the parts after the own-number check. -/
def State.takeParts (s : State) (f : Frame) : State :=
  match f.body with
  | .presence p => s.takePresence f.header p
  | .claim r q t => s.takeClaim f.header r q t
  | .grant x r q => s.takeGrant f.header x r q
  | .hold r q => s.takeHold f.header r q
  | .free r _ _ => s.takeFree f.header r
  | .withdraw => s.takeWithdraw f.header

/-! ## A valid frame -/

/-- R1: the clock take-up. -/
def State.takeUpClock (s : State) (sender : Clock) : State :=
  { s with claims := { s.claims with clock := takeUp s.claims.clock sender } }

/-- R124, R137: the first effects of a valid frame: the round state, the receive side of the standing, the clock. -/
def State.validFrame (s : State) (h : Header) : State :=
  ({ s with line := s.line.frameEnd .rotating h.source }.countValid).takeUpClock h.clock

/-- R157: the frame that brings the recovery frame count to 48 completes recovery. -/
def State.recoverByFrames (s : State) : State :=
  if Config.recoveryFrames ≤ s.standing.recoveryFrames then s.completeRecovery else s

/-- R127, R132: the take-in of a valid frame. In SILENT it stops after the clock take-up, and a frame of the own number is
the duplicate-number event. -/
def State.takeIn (s : State) (f : Frame) : State :=
  let t := s.validFrame f.header
  if s.session.state = .silent then t.recoverByFrames
  else if f.header.source = s.session.number then t.duplicateNumber
  else t.takeParts f

/-- R121, R123: a received frame; one that fails a content check is a receive fault (log 7). -/
def State.receive (s : State) (f : Frame) : State :=
  s.spanEnds fun t => if frameValid f then t.takeIn f else t.takeFault

/-- RECEIVE_PRESENCE (R52, R115). -/
def execReceivePresence (h : Header) (p : Presence) (s : State) : Host.Outcome State Fault Refusal :=
  .next (s.receive { header := h, body := .presence p })

/-- RECEIVE_CLAIM (R35, R116). -/
def execReceiveClaim (h : Header) (r : Resource) (q : ClaimSeq) (t : Clock) (s : State) :
    Host.Outcome State Fault Refusal :=
  .next (s.receive { header := h, body := .claim r q t })

/-- RECEIVE_GRANT (R16, R117). -/
def execReceiveGrant (h : Header) (x : Station) (r : Resource) (q : ClaimSeq) (s : State) :
    Host.Outcome State Fault Refusal :=
  .next (s.receive { header := h, body := .grant x r q })

/-- RECEIVE_HOLD (R99, R118). -/
def execReceiveHold (h : Header) (r : Resource) (q : ClaimSeq) (s : State) : Host.Outcome State Fault Refusal :=
  .next (s.receive { header := h, body := .hold r q })

/-- RECEIVE_FREE (R17, R43, R47, R103, R119). -/
def execReceiveFree (h : Header) (r : Resource) (q : ClaimSeq) (reason : CloseReason) (s : State) :
    Host.Outcome State Fault Refusal :=
  .next (s.receive { header := h, body := .free r q reason })

/-- RECEIVE_WITHDRAW (R61, R120). -/
def execReceiveWithdraw (h : Header) (s : State) : Host.Outcome State Fault Refusal :=
  .next (s.receive { header := h, body := .withdraw })

/-! ## Faults and activity -/

/-- R122, R123: the bytes between two delimiters. Bytes that pass every check are the frame they spell (log 7). -/
def State.takeBytes (s : State) (bs : List Byte) : State :=
  match frameOfBytes bs with
  | some f => s.takeIn f
  | none => s.takeFault

/-- R122, R135: activity reported as no valid frame. -/
def State.takeActivity (s : State) : LineFault → State
  | .codeViolation => s.takeFault
  | .cutShort => s.takeFault
  | .bytes bs => s.takeBytes bs
  | .cells cs =>
    match framedBytes cs with
    | some bs => s.takeBytes bs
    | none => s.takeFault

/-- RECEIVE_FAULT (R122, R135). -/
def execReceiveFault (activity : LineFault) (s : State) : Host.Outcome State Fault Refusal :=
  .next (s.spanEnds fun t => t.takeActivity activity)

/-- R156: carrier in SILENT sets the recovery quiet count to 0. -/
def State.carrierAtRecovery (s : State) : StandingMonitor :=
  if s.session.state = .silent then { s.standing with recoveryQuiet := 0 } else s.standing

/-- R121, R136: carrier ends the round and the gap; activity is counted where the receiver sees its start. -/
def LinePhase.carrier (active : Bool) : LinePhase → LinePhase
  | .quiet => .activity active
  | .round _ => .activity active
  | .activity counted => .activity counted

/-- CARRIER_DETECTED (R136). The read-back of an own frame is not reception (R121). -/
def execCarrierDetected (s : State) : Host.Outcome State Fault Refusal :=
  .next
    (if s.driverActive then s
     else
      { s with
        standing := s.carrierAtRecovery
        line := { s.line with phase := s.line.phase.carrier s.session.state.receiverActive, carrierInTick := true } })

/-- QUIET_GAP_ELAPSED (R136, R139): a round opens with slot 0. -/
def execQuietGapElapsed (s : State) : Host.Outcome State Fault Refusal :=
  .next
    (if s.session.state.receiverActive && !s.driverActive && s.line.phase == .quiet then
      { s with line := { s.line with phase := .round 0 } }
     else s)

/-- END_OF_UNCOUNTED_ACTIVITY (R121, R137). -/
def execEndOfUncountedActivity (s : State) : Host.Outcome State Fault Refusal :=
  .next (if s.line.phase = .activity false then s.endUncounted else s)

end Sys2Proof.Machine
end

