-- ==== Sys2Proof/Machine/Send.lean ====
section
/-! DEFINITION. What the part sends: the choice of a frame in the own slot (R140, R144 to R147), and the ends of own
frames (R141, R142) with their effects at the owning blocks. -/

namespace Sys2Proof.Machine

/-! ## The choice -/

/-- R145: the class of an unsent request in an entry's slot, where it is eligible. -/
def State.requestClass (s : State) (e : ClaimEntry) : Option Nat :=
  match e.slot.unsent with
  | none => none
  | some (.free _) => some 3
  | some .hold => some 4
  | some .firstClaim =>
    if e.state = .queued ∧ (s.standing.standing = .impaired ∨ exhausted s.claims.clock = true) then none else some 5
  | some .resend => some 6

/-- R145: the class of what a slot holds unsent and eligible. -/
def State.slotClass (s : State) : SlotName → Option Nat
  | .withdraw => if s.scheduler.withdraw = .unsent then some 1 else none
  | .presence => if s.scheduler.presence = .unsent then some 2 else none
  | .entry r => (s.entry? r).bind s.requestClass

/-- R145: the first waiting own frame: by class, and within a class by placement. -/
def State.firstOwn (s : State) : Option SlotName :=
  [1, 2, 3, 4, 5, 6].findSome? fun c => s.scheduler.order.find? fun n => s.slotClass n == some c

/-- What the Send Scheduler chooses (R144). -/
inductive Choice where
  | answer (g : GrantItem)
  | own (n : SlotName)
  deriving DecidableEq, Repr

/-- R144: the choice. -/
def State.choice (s : State) : Option Choice :=
  match s.answers, s.firstOwn with
  | [], none => none
  | [], some n => some (.own n)
  | g :: _, none => some (.answer g)
  | g :: _, some n => if s.scheduler.alternation < Config.alternationTop then some (.answer g) else some (.own n)

/-! ## The start of a frame -/

/-- R114: the header at the choice. -/
def State.ownHeader (s : State) : Header :=
  { source := s.session.number, incarnation := s.session.incarnation, clock := s.claims.clock }

/-- R140, R147: the frame that was chosen goes on the line with its content as it now stands. -/
def State.startFrame (s : State) (kind : SentKind) (body : Body) (slot : Slot) : State :=
  { s with line :=
      { s.line with
        phase := .quiet
        carrierInTick := true
        onLine := some { kind := kind, frame := { header := s.ownHeader, body := body }, slot := slot, live := true } } }

/-- R144: a GRANT counts in the alternation, an own frame clears it. -/
def State.alternate (s : State) (n : Nat) : State := { s with scheduler := { s.scheduler with alternation := n } }

/-- R65, R67, R68: the content of the own PRESENCE. -/
def State.ownPresence (s : State) : Presence :=
  { interest := s.config.interest
    standing := s.standing.standing.advertised
    heard := s.roster.map fun m => (m.station, m.incarnation)
    held := (s.claims.table.filter ClaimEntry.showsHeld).map (·.resource) }

/-- R13: the members that an entry for `r` awaits at its hand-over. -/
def State.interested (s : State) (r : Resource) : List Station :=
  (s.roster.filter fun m => inGroups m.interest r).map (·.station)

/-- R2, R13: the hand-over of a QUEUED entry. -/
def State.handOver (s : State) (r : Resource) : State :=
  let stamp := s.claims.clock + 1
  { s with claims := { s.claims with clock := stamp } }.modifyEntry r fun e =>
    { e with state := .wanted, stamp := some stamp, awaiting := s.interested r, announced := false, resendDue := none }

/-- R13: the hand-over is made at the choice of a QUEUED entry's first CLAIM. -/
def State.handOverIfQueued (s : State) (r : Resource) : State :=
  if (s.entry? r).any (fun e => e.state == .queued && e.slot.unsent == some .firstClaim) then s.handOver r else s

/-- R116: the CLAIM frame of an entry: its resource, sequence and stamp. -/
def ClaimEntry.claimBody (e : ClaimEntry) : Body := .claim e.resource e.seq (e.stamp.getD 0)

/-- R10: the slot's unsent request goes on the line. -/
def ClaimEntry.slotSends (e : ClaimEntry) : ClaimEntry :=
  { e with slot := { onLine := e.slot.unsent, unsent := none } }

/-- R147: a request of an entry's slot goes on the line. -/
def State.sendEntry (s : State) (r : Resource) (slot : Slot) : State :=
  let t := s.handOverIfQueued r
  match t.entry? r with
  | none => s
  | some e =>
    let u := t.modifyEntry r ClaimEntry.slotSends
    match e.slot.unsent with
    | none => s
    | some .firstClaim => u.startFrame .firstClaim e.claimBody slot
    | some .resend => u.startFrame .resend e.claimBody slot
    | some .hold => u.startFrame .hold (.hold r e.seq) slot
    | some (.free reason) => u.startFrame .free (.free r e.seq reason) slot

/-- R147: the request of an own-frame slot goes on the line. -/
def State.sendOwn (s : State) (n : SlotName) (slot : Slot) : State :=
  match n with
  | .withdraw =>
    { s with scheduler := { s.scheduler with withdraw := .onLine } }.startFrame .withdraw .withdraw slot
  | .presence =>
    { s with scheduler := { s.scheduler with presence := .onLine } }.startFrame .presence (.presence s.ownPresence) slot
  | .entry r => s.sendEntry r slot

/-- R42, R144: what was chosen goes on the line, and the alternation count follows. -/
def State.send (s : State) (c : Choice) (slot : Slot) : State :=
  match c with
  | .answer g =>
    (s.alternate (min Config.alternationTop (s.scheduler.alternation + 1))).startFrame .grant
      (.grant g.target g.resource g.seq) slot
  | .own n => (s.alternate 0).sendOwn n slot

/-- The own slot of the present round (R138). -/
def State.ownSlot (s : State) : Slot := ownSlotOf s.line.roundType s.line.base s.session.number

/-- R140, R144: the beginning of the own slot in an open round. -/
def State.slotBegins (s : State) : State :=
  let t := { s with line := { s.line with phase := .round s.ownSlot } }
  if s.session.state.maySend then
    match s.choice with
    | none => t
    | some c => t.send c s.ownSlot
  else t

/-- The line stands in a round (R136). -/
def LinePhase.isRound : LinePhase → Bool
  | .round _ => true
  | .quiet | .activity _ => false

/-- OWN_SLOT (R140). Without an open round no slot begins (log 4). -/
def execOwnSlot (s : State) : Host.Outcome State Fault Refusal :=
  .next (if s.line.phase.isRound && !s.driverActive then s.slotBegins else s)

/-! ## Send faults -/

/-- R137: the driver becomes inactive at the end of an own frame, which sets the round state. -/
def LineInterface.ownFrameEnds (l : LineInterface) (t : RoundType) (b : Station) : LineInterface :=
  { l.frameEnd t b with onLine := none }

/-- R10, R141: the failed frame leaves the line; its request waits again unless a newer one has replaced it. -/
def ClaimEntry.slotFails (e : ClaimEntry) : ClaimEntry :=
  { e with slot := { onLine := none, unsent := e.slot.unsent <|> e.slot.onLine } }

/-- R141: what stays for the next turn. A GRANT's item has stayed at the head of the answer queue. -/
def State.returnRequest (s : State) (f : SentFrame) : State :=
  match f.frame.body with
  | .presence _ => { s with scheduler := { s.scheduler with presence := .unsent } }
  | .withdraw => { s with scheduler := { s.scheduler with withdraw := .unsent } }
  | .grant _ _ _ => s
  | .claim r _ _ => s.modifyEntry r ClaimEntry.slotFails
  | .hold r _ => s.modifyEntry r ClaimEntry.slotFails
  | .free r _ _ => s.modifyEntry r ClaimEntry.slotFails

/-- R95, R141: an own frame aborts. -/
def State.frameFails (s : State) (f : SentFrame) : State :=
  let t := { s with line := s.line.ownFrameEnds .fixed s.line.base }
  (if f.live then t.returnRequest f else t).countSendFault

/-! ## Completions -/

/-- R95, R142: the own frame of this kind completes: the Standing Monitor counts it, and where its request still stands
the owning block takes the completion. With no frame of this kind on the line nothing completes (log 4). -/
def State.completes (s : State) (kind : SentKind) (owner : Frame → State → State) : State :=
  match s.line.onLine with
  | none => s
  | some f =>
    if f.kind = kind then
      let t := { s with line := s.line.ownFrameEnds .rotating s.session.number }.countCompleted
      if f.live then owner f.frame t else t
    else s

/-- R10, R142: the frame leaves the entry's slot, and the slot's place unless a newer request waits there. -/
def State.slotCompletes (s : State) (r : Resource) : State :=
  let t := s.modifyEntry r fun e => { e with slot := { e.slot with onLine := none } }
  if (s.entry? r).any (fun e => e.slot.unsent.isSome) then t
  else { t with scheduler := t.scheduler.forget (.entry r) }

/-- R15, R20: re-send due becomes the completion tick plus I in a WANTED entry that still awaits an answer. -/
def ClaimEntry.awaitNext (due : Nat) (e : ClaimEntry) : ClaimEntry :=
  if e.state = .wanted ∧ e.awaiting ≠ [] then { e with resendDue := some (.atTick due) } else e

/-- The completion tick plus I (R15, R20). -/
def State.nextResend (s : State) : Nat := s.session.tick + s.config.reply

/-- R15: the announce. -/
def State.announce (s : State) (r : Resource) : State :=
  let t := (s.slotCompletes r).modifyEntry r fun e => ({ e with announced := true }).awaitNext s.nextResend
  (t.begin.moveToHeld r).finish s none

/-- R20: a re-send completes. -/
def State.resendCompletes (s : State) (r : Resource) : State :=
  (s.slotCompletes r).modifyEntry r fun e =>
    ({ e with resendCount := min Config.resendCountTop (e.resendCount + 1) }).awaitNext s.nextResend

/-- R106: the own hold leaves the view, with the VIEW notice. -/
def State.dropOwnHold (s : State) (r : Resource) : State :=
  (s.begin.on fun t => { t with view := dropAt r Holder.isOwn t.view }).finish s none

/-- R26: a FREE completes; CLOSED comes before the view's notices (log 11). -/
def State.freeCompletes (s : State) (r : Resource) : State :=
  match s.entry? r with
  | none => s
  | some e =>
    match e.state with
    | .releasing reason =>
      let t := (s.removeEntry r).give (.closed r reason none)
      if e.wasHeld then t.dropOwnHold r else t
    | .queued | .wanted | .held => s.slotCompletes r

/-- R42: a GRANT completes: its item leaves the queue. -/
def State.grantCompletes (s : State) (g : GrantItem) : State := { s with answers := s.answers.erase g }

/-- R66, R146: the PRESENCE leaves its slot. -/
def SendScheduler.presenceDone (c : SendScheduler) (due : Option Nat) : SendScheduler :=
  { c.forget .presence with presence := .empty, presenceDue := due }

/-- R82, R83, R146: the timers that an own PRESENCE starts when it completes. -/
def State.presenceTimers (s : State) : State :=
  { s with
    session := { s.session with ownPresence := some 0 }
    scheduler := s.scheduler.presenceDone (some s.config.periodMs) }

/-- R82, R83, R146: an own PRESENCE completes. -/
def State.presenceCompletes (s : State) : State :=
  match s.session.state with
  | .announcing => s.presenceTimers.enterState .member .announced none
  | .member => s.presenceTimers
  | .setup | .listening | .observing | .leaving | .silent | .halted =>
    { s with scheduler := s.scheduler.presenceDone s.scheduler.presenceDue }

/-- The WITHDRAW leaves its slot (R142). -/
def SendScheduler.withdrawDone (c : SendScheduler) : SendScheduler := { c.forget .withdraw with withdraw := .empty }

/-- R87: the WITHDRAW completes in LEAVING: the session ends. -/
def State.withdrawCompletes (s : State) : State :=
  let t := { s with scheduler := s.scheduler.withdrawDone }
  if s.session.state = .leaving then
    ({ t.clearRoster with view := viewUnknown }.deactivate).enterState .setup .withdrawn none
  else t

/-- The owner of a CLAIM frame takes its announce (R15); the other kinds do not come here. -/
def announceOf (f : Frame) (s : State) : State :=
  match f.body with
  | .claim r _ _ => s.announce r
  | .presence _ | .grant _ _ _ | .hold _ _ | .free _ _ _ | .withdraw => s

/-- The owner of a re-send takes its completion (R20). -/
def resendOf (f : Frame) (s : State) : State :=
  match f.body with
  | .claim r _ _ => s.resendCompletes r
  | .presence _ | .grant _ _ _ | .hold _ _ | .free _ _ _ | .withdraw => s

/-- The owner of a HOLD takes its completion (R27). -/
def holdOf (f : Frame) (s : State) : State :=
  match f.body with
  | .hold r _ => s.slotCompletes r
  | .presence _ | .claim _ _ _ | .grant _ _ _ | .free _ _ _ | .withdraw => s

/-- The owner of a FREE takes its completion (R26). -/
def freeOf (f : Frame) (s : State) : State :=
  match f.body with
  | .free r _ _ => s.freeCompletes r
  | .presence _ | .claim _ _ _ | .grant _ _ _ | .hold _ _ | .withdraw => s

/-- The owner of a GRANT takes its completion (R42). -/
def grantOf (f : Frame) (s : State) : State :=
  match f.body with
  | .grant x r q => s.grantCompletes { target := x, resource := r, seq := q }
  | .presence _ | .claim _ _ _ | .hold _ _ | .free _ _ _ | .withdraw => s

/-- R142: the own frame of a kind completes at its owner. -/
def State.completesAs (s : State) : SentKind → State
  | .firstClaim => s.completes .firstClaim announceOf
  | .resend => s.completes .resend resendOf
  | .hold => s.completes .hold holdOf
  | .free => s.completes .free freeOf
  | .grant => s.completes .grant grantOf
  | .presence => s.completes .presence fun _ t => t.presenceCompletes
  | .withdraw => s.completes .withdraw fun _ t => t.withdrawCompletes

/-- CLAIM_FRAME_COMPLETE (R15): a first send or a retry of it. -/
def execClaimFrameComplete (s : State) : Host.Outcome State Fault Refusal := .next (s.completesAs .firstClaim)

/-- CLAIM_RESEND_COMPLETE (R20). -/
def execClaimResendComplete (s : State) : Host.Outcome State Fault Refusal := .next (s.completesAs .resend)

/-- HOLD_COMPLETE (R27). -/
def execHoldComplete (s : State) : Host.Outcome State Fault Refusal := .next (s.completesAs .hold)

/-- FREE_COMPLETE (R26). -/
def execFreeComplete (s : State) : Host.Outcome State Fault Refusal := .next (s.completesAs .free)

/-- GRANT_COMPLETE (R42). -/
def execGrantComplete (s : State) : Host.Outcome State Fault Refusal := .next (s.completesAs .grant)

/-- PRESENCE_COMPLETE (R66, R82, R83, R146). -/
def execPresenceComplete (s : State) : Host.Outcome State Fault Refusal := .next (s.completesAs .presence)

/-- WITHDRAW_COMPLETE (R87). -/
def execWithdrawComplete (s : State) : Host.Outcome State Fault Refusal := .next (s.completesAs .withdraw)

/-! ## Read-back -/

/-- R141, R142: what the read-back of the own frame on the line brings: the abort at a mismatch, the completion at the last
cell, and nothing before (log 18). Without an own frame on the line there is no read-back (log 4). -/
def State.readBack (s : State) (r : ReadBack) : State :=
  match s.line.onLine with
  | none => s
  | some f =>
    match f.verdict r with
    | .differs => s.frameFails f
    | .whole => s.completesAs f.kind
    | .soFar => s

/-- SEND_FAULT (R141, R150). -/
def execSendFault (s : State) (readBack : ReadBack := .mismatch) : Host.Outcome State Fault Refusal :=
  .next (s.readBack readBack)

end Sys2Proof.Machine
end

