-- ==== Sys2Proof/Machine/Dispatch.lean ====
section
/-! DEFINITION. One arm per command, each a direct call of that command's meaning. -/

namespace Sys2Proof.Machine

def exec (i : Instr) (s : State) : Host.Outcome State Fault Refusal :=
  match i with
  | .configure a => Sys2Proof.Machine.execConfigure a s
  | .start => Sys2Proof.Machine.execStart s
  | .leave => Sys2Proof.Machine.execLeave s
  | .claim resource patience => Sys2Proof.Machine.execClaim resource patience s
  | .release resource => Sys2Proof.Machine.execRelease resource s
  | .abandon resource => Sys2Proof.Machine.execAbandon resource s
  | .query resource => Sys2Proof.Machine.execQuery resource s
  | .roster => Sys2Proof.Machine.execRoster s
  | .peer station => Sys2Proof.Machine.execPeer station s
  | .fetch => Sys2Proof.Machine.execFetch s
  | .dismiss number => Sys2Proof.Machine.execDismiss number s
  | .status => Sys2Proof.Machine.execStatus s
  | .repeatLast => Sys2Proof.Machine.execRepeat s
  | .linkTransactionError frame check => Sys2Proof.Machine.execLinkTransactionError frame check s
  | .transactionBegin => Sys2Proof.Machine.execTransactionBegin s
  | .transactionEnd => Sys2Proof.Machine.execTransactionEnd s
  | .fullReset => Sys2Proof.Machine.execFullReset s
  | .resetRelease straps => Sys2Proof.Machine.execResetRelease straps s
  | .tick => Sys2Proof.Machine.execTick s
  | .receivePresence h p => Sys2Proof.Machine.execReceivePresence h p s
  | .receiveClaim h resource seq stamp => Sys2Proof.Machine.execReceiveClaim h resource seq stamp s
  | .receiveGrant h target resource seq => Sys2Proof.Machine.execReceiveGrant h target resource seq s
  | .receiveHold h resource seq => Sys2Proof.Machine.execReceiveHold h resource seq s
  | .receiveFree h resource seq reason => Sys2Proof.Machine.execReceiveFree h resource seq reason s
  | .receiveWithdraw h => Sys2Proof.Machine.execReceiveWithdraw h s
  | .receiveFault activity => Sys2Proof.Machine.execReceiveFault activity s
  | .carrierDetected => Sys2Proof.Machine.execCarrierDetected s
  | .quietGapElapsed => Sys2Proof.Machine.execQuietGapElapsed s
  | .ownSlot => Sys2Proof.Machine.execOwnSlot s
  | .sendFault readBack => Sys2Proof.Machine.execSendFault s readBack
  | .claimFrameComplete => Sys2Proof.Machine.execClaimFrameComplete s
  | .claimResendComplete => Sys2Proof.Machine.execClaimResendComplete s
  | .holdComplete => Sys2Proof.Machine.execHoldComplete s
  | .freeComplete => Sys2Proof.Machine.execFreeComplete s
  | .grantComplete => Sys2Proof.Machine.execGrantComplete s
  | .presenceComplete => Sys2Proof.Machine.execPresenceComplete s
  | .withdrawComplete => Sys2Proof.Machine.execWithdrawComplete s
  | .joinWindowEnd => Sys2Proof.Machine.execJoinWindowEnd s
  | .ownPresenceLapse => Sys2Proof.Machine.execOwnPresenceLapse s
  | .loss => Sys2Proof.Machine.execLoss s
  | .patienceExpiry => Sys2Proof.Machine.execPatienceExpiry s
  | .resendDue => Sys2Proof.Machine.execResendDue s
  | .presenceDue => Sys2Proof.Machine.execPresenceDue s
  | .recoveryQuietSpan => Sys2Proof.Machine.execRecoveryQuietSpan s
  | .byteClocked b => Sys2Proof.Machine.execByteClocked b s
  | .endOfUncountedActivity => Sys2Proof.Machine.execEndOfUncountedActivity s

end Sys2Proof.Machine
end

