-- ==== Sys2Proof/Machine/Step.lean ====
section
/-! DEFINITION. One step of the part: the command at the front of the queue, or nothing on an empty queue (log 2). -/

namespace Sys2Proof.Machine

/-- The state with a command put at the front of its queue. -/
def State.push (s : State) (c : Instr) : State := { s with pending := c :: s.pending }

/-- One step: the front command's meaning on the state with the queue's rest; on an empty queue the part idles. -/
def step (s : State) : Host.Outcome State Fault Refusal :=
  match s.pending with
  | [] => .next s
  | c :: rest => exec c { s with pending := rest }

/-- The command that a word spells, put at the front of the queue; no word spells one (the table gives no bits). -/
def State.withFetchWord (s : State) (nbits w : Nat) : State :=
  match decodeTableWord nbits w with
  | some c => s.push c
  | none => s

end Sys2Proof.Machine
end

