-- ==== Sys2Proof/Safety.lean ====
section
/-! DEFINITION. The laws of the device that the spec names, as properties of a state, and the words that statements about
commands are written in: what a taken command leaves in the Link Port, when a receiver takes a frame, and what a received
frame does to the round state, the counts and the clock. -/

namespace Sys2Proof.Machine

/-! ## Notice Queue (R162, R163, R165, R166, R174) -/

/-- R165: the numbers in the queue are consecutive modulo 256, and the tail's is one below the counter. -/
def Numbered : List Notice → NoticeNumber → Prop
  | [], _ => True
  | n :: rest, next => n.number + Fin.ofNat 256 (rest.length + 1) = next ∧ Numbered rest next

/-- At most 32 notices with consecutive numbers, a mark set only with a full queue, ATTN asserted exactly when the queue is
not empty, and the marks in ascending order. -/
structure NoticeQueue.Lawful (q : NoticeQueue) : Prop where
  bounded : q.queue.length ≤ 32
  numbered : Numbered q.queue q.next
  marksNeedFull : q.marksPending = true → q.queue.length = 32
  attnFollows : q.attn = !q.queue.isEmpty
  stationsAscend : Ascending Fin.val q.stationMarks
  resourcesAscend : Ascending Fin.val q.resourceMarks

/-! ## Standing Monitor (R149, R150, R152, R156) -/

/-- Both counts lie in 0 to 240, and the standing outside SILENCED is SOUND exactly when both are below 120. -/
structure StandingMonitor.Lawful (m : StandingMonitor) : Prop where
  sendBounded : m.sendFaults ≤ 240
  receiveBounded : m.receiveFaults ≤ 240
  derived : m.standing ≠ .silenced → (m.standing = .sound ↔ m.sendFaults < 120 ∧ m.receiveFaults < 120)
  silencedFull : m.standing = .silenced → m.sendFaults = 240
  progressBelow : m.recoveryFrames < 48

/-! ## Session Controller with the Line Interface (R76, R92, R149, R155) -/

/-- R92: an observer has no frame on the line and is never in a state that sends. -/
def State.ObserverSilent (s : State) : Prop :=
  s.config.role = .observer → s.line.onLine = none ∧ s.session.state.maySend = false

/-- R149, R153, R155: SILENCED is the standing of SILENT and may be that of SETUP, no own frame is on the line in it, and
the recovery progress is 0 outside SILENT. -/
structure State.SilenceLawful (s : State) : Prop where
  observer : s.ObserverSilent
  observing : s.session.state = .observing → s.config.role = .observer
  haltedQuiet : s.session.state = .halted → s.line.onLine = none
  silentIsSilenced : s.session.state = .silent → s.standing.standing = .silenced
  silencedStates : s.standing.standing = .silenced → s.session.state = .setup ∨ s.session.state = .silent
  silencedQuiet : s.standing.standing = .silenced → s.line.onLine = none
  progressOnlySilent :
    s.session.state ≠ .silent → s.standing.recoveryFrames = 0 ∧ s.standing.recoveryQuiet = 0

/-! ## Roster Unit (R50, R72) -/

/-- R50, R76: the station states in which the roster is empty. -/
def StationState.rosterEmpty : StationState → Bool
  | .setup | .silent | .halted => true
  | .listening | .announcing | .member | .observing | .leaving => false

/-- R50: one entry per station number in ascending order, never the own number, and no entry in SETUP, SILENT and HALTED;
while RESET_N is asserted the part is in SETUP and its Link Port in IDLE (R76, R176). -/
structure State.RosterLawful (s : State) : Prop where
  ascends : Ascending (fun m : Member => m.station.val) s.roster
  notOwn : ∀ m ∈ s.roster, m.station ≠ s.session.number
  emptyStates : s.session.state.rosterEmpty = true → s.roster = []
  resetSetup : s.session.resetAsserted = true → s.session.state = .setup ∧ s.link.phase = .idle

/-! ## Claim Engine (R6, R8, R9, R18, R25) -/

/-- What each state of an entry implies of its fields (R7, R8, R9, R18, R25). -/
structure ClaimEntry.Lawful (e : ClaimEntry) : Prop where
  heldAnswered : e.state = .held → e.awaiting = [] ∧ e.announced = true ∧ e.wasHeld = true
  heldTimers : e.state = .held → e.patience = none ∧ e.resendDue = none
  awaitingWanted : e.awaiting ≠ [] → e.state = .wanted
  wantedAwaits : e.state = .wanted → e.announced = true → e.awaiting ≠ []
  waitersRecorded : e.waiters ≠ [] → e.recordsDeferrals = true
  wasHeldStates : e.wasHeld = true → e.state = .held ∨ e.state = .releasing .released

/-- R6: at most 16 entries, never two for one resource, and none outside MEMBER; each entry is lawful. An OBSERVING station
is an observer (R81), so no claim is made there (R11). -/
structure State.ClaimsLawful (s : State) : Prop where
  bounded : s.claims.table.length ≤ 16
  ascends : Ascending (fun e : ClaimEntry => e.resource.val) s.claims.table
  entries : ∀ e ∈ s.claims.table, e.Lawful
  onlyMember : s.session.state ≠ .member → s.claims.table = []
  observing : s.session.state = .observing → s.config.role = .observer

/-- R8, R9: awaiting sets ascend by station and name members; waiters ascend by claim priority, one for each station, and
name members. -/
structure State.ListsLawful (s : State) : Prop where
  awaitingAscends : ∀ e ∈ s.claims.table, Ascending Fin.val e.awaiting
  awaitingMembers : ∀ e ∈ s.claims.table, ∀ x ∈ e.awaiting, ∃ m ∈ s.roster, m.station = x
  waitersAscend : ∀ e ∈ s.claims.table, Ascending Waiter.key e.waiters
  waitersOnce : ∀ e ∈ s.claims.table, (e.waiters.map (·.station)).Nodup
  waitersMembers : ∀ e ∈ s.claims.table, ∀ w ∈ e.waiters, ∃ m ∈ s.roster, m.station = w.station

/-! ## Send Scheduler (R10, R143, R145) -/

/-- R10, R143, R145: the placement order names each slot once, and exactly the slots that hold a request, on the line or
unsent; the PRESENCE or WITHDRAW that is on the line and still stands is its slot's. -/
structure State.SlotsLawful (s : State) : Prop where
  once : s.scheduler.order.Nodup
  withdraw : SlotName.withdraw ∈ s.scheduler.order ↔ s.scheduler.withdraw ≠ .empty
  presence : SlotName.presence ∈ s.scheduler.order ↔ s.scheduler.presence ≠ .empty
  entries : ∀ r, SlotName.entry r ∈ s.scheduler.order ↔
    ∃ e, s.entry? r = some e ∧ (e.slot.unsent ≠ none ∨ e.slot.onLine ≠ none)
  presenceOnLine : ∀ f p, s.line.onLine = some f → f.live = true → f.frame.body = .presence p →
    s.scheduler.presence = .onLine
  withdrawOnLine : ∀ f, s.line.onLine = some f → f.live = true → f.frame.body = .withdraw →
    s.scheduler.withdraw = .onLine

/-! ## Answer Unit (R32, R49) -/

/-- R32: at most 16 GRANTs, no two alike, each targeted at a member, none for a resource whose own entry is HELD, and none
outside MEMBER. -/
structure State.AnswersLawful (s : State) : Prop where
  bounded : s.answers.length ≤ 16
  distinct : s.answers.Nodup
  members : ∀ g ∈ s.answers, ∃ m ∈ s.roster, m.station = g.target
  noneHeld : ∀ g ∈ s.answers, ∀ e ∈ s.claims.table, e.state = .held → g.resource ≠ e.resource
  onlyMember : s.session.state ≠ .member → s.answers = []

/-! ## View Table (R96, R98, R100) -/

/-- R98: two holders of one entry are two stations, and at most one of them is own. -/
def ViewEntry.Lawful : ViewEntry → Prop
  | .unknown | .free | .held _ => True
  | .contested a b => a.same b = false

/-- R96, R100: 256 entries, and the own station shown as a holder exactly where the claim table shows a hold. -/
structure State.ViewLawful (s : State) : Prop where
  size : s.view.length = 256
  entries : ∀ v ∈ s.view, v.Lawful
  own : ∀ r : Resource, (viewAt s.view r).recordsOwn = (s.entry? r).any ClaimEntry.showsHeld

/-! ## Words for statements about commands -/

/-- The Link Port after a command other than REPEAT is taken and answered (R179, R181): TURNAROUND begins, the response
waits in its buffer, and the record holds it with the command's code and check byte. -/
def LinkPort.after (l : LinkPort) (c : Instr) (r : Response) : LinkPort :=
  { l with
    selected := true
    phase := .turnaround 0
    received := linkFrame c
    response := r.bytes
    record := some { code := (linkFrame c).headD 0, check := crc8 (linkFrame c), response := r }
    sdo := .driven 0xFF }

/-- The part after a command that is refused, or that only reads: the Link Port alone has changed (R183, R186). -/
def State.answer (s : State) (c : Instr) (st : Status) (data : List Byte) : State :=
  { s with link := s.link.after c { status := st, data := data } }

/-- The check byte of the command's frame can complete (R176, R178): RESET_N is released, and a transaction that has
gathered bytes has gathered this command's. -/
def State.Ready (s : State) (c : Instr) : Prop :=
  s.session.resetAsserted = false ∧
    (s.link.phase = .command → s.link.received = [] ∨ s.link.received = linkFrame c)

/-- The received frame that a command stands for (R114 to R120). -/
def frameOf : Instr → Option Frame
  | .receivePresence h p => some { header := h, body := .presence p }
  | .receiveClaim h r q t => some { header := h, body := .claim r q t }
  | .receiveGrant h x r q => some { header := h, body := .grant x r q }
  | .receiveHold h r q => some { header := h, body := .hold r q }
  | .receiveFree h r q reason => some { header := h, body := .free r q reason }
  | .receiveWithdraw h => some { header := h, body := .withdraw }
  | .configure _ | .start | .leave | .claim _ _ | .release _ | .abandon _ | .query _ | .roster | .peer _ | .fetch
  | .dismiss _ | .status | .repeatLast | .linkTransactionError _ _ | .transactionBegin | .transactionEnd | .fullReset
  | .resetRelease _ | .tick | .receiveFault _ | .carrierDetected | .quietGapElapsed | .ownSlot | .sendFault _
  | .claimFrameComplete | .claimResendComplete | .holdComplete | .freeComplete | .grantComplete | .presenceComplete
  | .withdrawComplete | .joinWindowEnd | .ownPresenceLapse | .loss | .patienceExpiry | .resendDue | .presenceDue
  | .recoveryQuietSpan | .byteClocked _ | .endOfUncountedActivity => none

/-- R121, R140: the receiver is active, the part does not send, and the span of activity was seen from its start. -/
def State.Hearing (s : State) : Prop :=
  s.session.state.receiverActive = true ∧ s.line.onLine = none ∧ s.line.phase ≠ .activity false

/-- The receiver hears, the station state takes the frame further than the clock (R132), and the frame is not from the own
number (R131). -/
def State.TakesFrom (s : State) (h : Header) : Prop :=
  s.Hearing ∧ s.session.state ≠ .silent ∧ h.source ≠ s.session.number

/-- R59: no member has the source's number with another incarnation, so the frame purges nobody. -/
def State.NoPurge (s : State) (h : Header) : Prop := ∀ m, s.member? h.source = some m → m.incarnation = h.incarnation

/-- What every frame taken in outside SILENT does before its kind (R1, R124, R137, R151), and what it leaves: the clock is
raised, the line stands in the gap of a rotating round, the receive fault count falls by 1 with the standing after it, and
the sequence counter, the session, the Link Port and the waiting commands are as they were. (The frame's own carrier is
implied: log 8.) -/
structure State.Took (s t : State) (h : Header) : Prop where
  clock : t.claims.clock = if s.claims.clock < h.clock then h.clock else s.claims.clock
  line : t.line = { s.line with phase := .quiet, roundType := .rotating, base := h.source, carrierInTick := true }
  standing : t.standing =
    { s.standing with
      receiveFaults := s.standing.receiveFaults - 1
      standing := deriveStanding s.standing.standing s.standing.sendFaults (s.standing.receiveFaults - 1) }
  seq : t.claims.seq = s.claims.seq
  session : t.session = s.session
  link : t.link = s.link
  pending : t.pending = s.pending

/-- R53, R60: the roster with the silence timer of one station restarted; a loss that was due does not happen, and none
is noted as met by a HOLD (log 29). -/
def restarted (x : Station) (roster : List Member) : List Member :=
  roster.map fun m => if m.station = x then { m with silence := 0, lossDue := false, lossMet := none } else m

/-- R53, R60: the same by a HOLD for `r`; one that met a due loss is noted (R113), and one that
finds no loss due keeps the note of an earlier HOLD (the model's choice: log 29). -/
def restartedByHold (x : Station) (r : Resource) (roster : List Member) : List Member :=
  roster.map fun m =>
    if m.station = x then
      { m with silence := 0, lossDue := false, lossMet := if m.lossDue = true then some r else m.lossMet }
    else m

/-- The entry's claim is waiting for the answer of station `x` (R16, R17). -/
abbrev ClaimEntry.AwaitsAnswer (e : ClaimEntry) (x : Station) : Prop :=
  e.state = .wanted ∧ e.announced = true ∧ x ∈ e.awaiting

/-- R16 to R18: the entry when the answer of station `x` has been counted: HELD with its HOLD waiting when that was the
last answer, and still WANTED otherwise. -/
def ClaimEntry.countAnswer (e : ClaimEntry) (x : Station) : ClaimEntry :=
  let left := e.awaiting.filter (· != x)
  if left = [] then
    { e with state := .held, wasHeld := true, awaiting := [], patience := none, resendDue := none,
             slot := { e.slot with unsent := some .hold } }
  else { e with awaiting := left }

/-! ### What a purge leaves (R30, R62) -/

/-- The answer of station `x` is the last that the entry's claim needs. -/
abbrev ClaimEntry.LastAnswer (e : ClaimEntry) (x : Station) : Prop :=
  e.AwaitsAnswer x ∧ e.awaiting.filter (· != x) = []

/-- R30: an entry after the purge of `x`: its waiters item goes, and it leaves the awaiting set, which for an announced claim
is as if it had answered. -/
def ClaimEntry.purged (x : Station) (e : ClaimEntry) : ClaimEntry :=
  let kept := { e with waiters := e.waiters.filter fun w => w.station != x }
  if e.AwaitsAnswer x then kept.countAnswer x else { kept with awaiting := e.awaiting.filter (· != x) }

/-- R30: the resources whose entries the purge of `x` completes, in the table's order. -/
def State.completedBy (s : State) (x : Station) : List Resource :=
  (s.claims.table.filter fun e => decide (e.LastAnswer x)).map (·.resource)

/-- R44, R45: the answer queue after the purge of `x`. -/
def State.purgedAnswers (s : State) (x : Station) : List GrantItem :=
  s.answers.filter fun g => g.target != x && !(s.completedBy x).contains g.resource

/-- R145: slots that take a new place one after another, as the newest. -/
def placedLast (order : List SlotName) (rs : List Resource) : List SlotName :=
  order.filter (fun n => !(rs.map SlotName.entry).contains n) ++ rs.map SlotName.entry

/-- R100, R105: a view entry after the purge of `x`: its hold is dropped, and then the own hold is added where the purge
completes the own claim. -/
def State.purgedEntry (s : State) (x : Station) (r : Resource) : ViewEntry :=
  let dropped := (viewAt s.view r).drop (Holder.isPeer x)
  match s.entry? r with
  | some e => if e.LastAnswer x then (dropped.add (.own e.seq)).1 else dropped
  | none => dropped

/-- The view after the purge of `x`. -/
def State.purgedView (s : State) (x : Station) : List ViewEntry := (List.finRange 256).map (s.purgedEntry x)

/-- R109: the entries in which the purge of `x` adds the own hold beside another holder. -/
def State.purgeConflicts (s : State) (x : Station) : List Resource :=
  (s.claims.table.filter fun e =>
    decide (e.LastAnswer x) && (((viewAt s.view e.resource).drop (Holder.isPeer x)).add (.own e.seq)).2).map (·.resource)

/-! ### What a PRESENCE leaves (R54, R56, R58, R104) -/

/-- R56: the PRESENCE is from a member of its incarnation and interest set. -/
def State.refreshes (s : State) (h : Header) (p : Presence) : Bool :=
  (s.member? h.source).any fun m => m.incarnation == h.incarnation && m.interest == p.interest

/-- R57, R58: the PRESENCE is from a member of another incarnation or interest set. -/
def State.renews (s : State) (h : Header) (p : Presence) : Bool :=
  (s.member? h.source).any fun m => !(m.incarnation == h.incarnation && m.interest == p.interest)

/-- R28: an entry after the admission of `x` with interest set `g`: a WANTED one in its groups awaits it, and an announced
one has its re-send waiting (log 9). -/
def ClaimEntry.joinedBy (x : Station) (g : Groups) (e : ClaimEntry) : ClaimEntry :=
  if e.state = .wanted ∧ inGroups g e.resource = true then
    let awaits := { e with awaiting := insertStation x e.awaiting }
    if e.announced = true then
      { awaits with resendDue := none, slot := { e.slot with unsent := some (e.slot.unsent.getD .resend) } }
    else awaits
  else e

/-- R19, R28: the resources for which an admission places a re-send. -/
def resendsFor (g : Groups) (table : List ClaimEntry) : List Resource :=
  (table.filter fun e =>
    decide (e.state = .wanted) && inGroups g e.resource && e.announced && e.slot.unsent.isNone).map (·.resource)

/-- The claim table when the purge half of a renewal has been taken. -/
def State.beforeAdmission (s : State) (h : Header) (p : Presence) : List ClaimEntry :=
  if s.renews h p then s.claims.table.map (ClaimEntry.purged h.source) else s.claims.table

/-- R28, R54, R58: the claim table after the roster event of a PRESENCE. -/
def State.presenceTable (s : State) (h : Header) (p : Presence) : List ClaimEntry :=
  if s.refreshes h p then s.claims.table else (s.beforeAdmission h p).map (ClaimEntry.joinedBy h.source p.interest)

/-- R98, R105: a view entry when the roster event and the incarnation sweep of a PRESENCE have been taken. -/
def State.sweptEntry (s : State) (h : Header) (p : Presence) (r : Resource) : ViewEntry :=
  (if s.renews h p then s.purgedEntry h.source r else viewAt s.view r).drop (Holder.isStale h.source h.incarnation)

/-- R104: a view entry after a PRESENCE: its source holds exactly what its held list names. -/
def State.presenceEntry (s : State) (h : Header) (p : Presence) (r : Resource) : ViewEntry :=
  if r ∈ p.held then ((s.sweptEntry h p r).add (.peer h.source h.incarnation .presence)).1
  else (s.sweptEntry h p r).drop (Holder.isPeer h.source)

/-- The view after a PRESENCE. -/
def State.presenceView (s : State) (h : Header) (p : Presence) : List ViewEntry :=
  (List.finRange 256).map (s.presenceEntry h p)

/-- R109: the entries in which a PRESENCE adds a holder beside another. -/
def State.presenceConflicts (s : State) (h : Header) (p : Presence) : List Resource :=
  (if s.renews h p then s.purgeConflicts h.source else [])
    ++ p.held.filter fun r => ((s.sweptEntry h p r).add (.peer h.source h.incarnation .presence)).2

/-- R54, R56, R58: the PEER notice of a PRESENCE. -/
def State.presencePeer (s : State) (h : Header) (p : Presence) : List NoticeBody :=
  if s.refreshes h p then []
  else [.peer h.source (if s.renews h p then .renewed else .joined) h.incarnation]

/-- R55, R111: the notices of a PRESENCE, less those of a lapse: PEER, GRANTED of the purge half, the view's. -/
def State.presenceNotices (s : State) (h : Header) (p : Presence) : List NoticeBody :=
  s.presencePeer h p ++ (if s.renews h p then (s.completedBy h.source).map NoticeBody.granted else [])
    ++ viewNotices (s.presenceConflicts h p) s.viewWatch 0 s.view (s.presenceView h p)

/-! ### Runs of events -/

/-- The state that commands leave one after another; a command that stops leaves the state as it is. -/
def State.runAll (s : State) (cs : List Instr) : State :=
  cs.foldl (fun t c => match exec c t with
    | .next u => u
    | .fault _ | .refused _ => t) s

/-- Log 3: the expiries in the order in which a tick takes those that are left: at most 31 losses, 16 patience expiries and
16 re-sends. -/
def expiriesInOrder : List Instr :=
  [.joinWindowEnd, .ownPresenceLapse] ++ List.replicate 31 .loss ++ List.replicate 16 .patienceExpiry
    ++ List.replicate 16 .resendDue ++ [.recoveryQuietSpan, .presenceDue]

/-- Nothing has run out that no step has taken yet (log 3). -/
structure State.NothingDue (s : State) : Prop where
  window : s.session.joinWindow ≠ some 0
  own : ∀ n, s.session.ownPresence = some n → n < s.config.lapseMs
  losses : ∀ m ∈ s.roster, m.lossDue = false
  patience : ∀ e ∈ s.claims.table, ∀ d, e.patience = some d → s.session.tick < d
  resends : ∀ e ∈ s.claims.table, ∀ d, e.resendDue = some d → ∃ k, d = .atTick k ∧ s.session.tick < k
  quiet : s.session.state = .silent → s.standing.recoveryQuiet < s.config.recoveryMs
  presence : s.scheduler.presenceDue ≠ some 0

/-- An own frame of this kind ends on the line while its request still stands (R142). -/
def State.Sends (s : State) (kind : SentKind) (body : Body) (f : SentFrame) : Prop :=
  s.line.onLine = some f ∧ f.kind = kind ∧ f.frame.body = body ∧ f.live = true

/-- R141: the read-back has shown a mismatch: it is reported, or the cells read back and the cells driven part somewhere. -/
def SentFrame.Mismatch (f : SentFrame) (r : ReadBack) : Prop :=
  r = .mismatch ∨ ∃ cs, r = .cells cs ∧ ¬ cs <+: f.cells ∧ ¬ f.cells <+: cs

/-- The command that says that an own frame of this kind has completed (R142). -/
def completionOf : SentKind → Instr
  | .firstClaim => .claimFrameComplete
  | .resend => .claimResendComplete
  | .hold => .holdComplete
  | .free => .freeComplete
  | .grant => .grantComplete
  | .presence => .presenceComplete
  | .withdraw => .withdrawComplete

/-- R137, R142, R150: the end of a completed own frame at the Line Interface and the Standing Monitor. -/
structure State.Completed (s t : State) : Prop where
  line : t.line =
    { s.line with phase := .quiet, roundType := .rotating, base := s.session.number, carrierInTick := true, onLine := none }
  standing : t.standing =
    if s.standing.standing = .silenced then s.standing
    else
      { s.standing with
        sendFaults := s.standing.sendFaults - 1
        standing := deriveStanding s.standing.standing (s.standing.sendFaults - 1) s.standing.receiveFaults }
  clock : t.claims.clock = s.claims.clock
  seq : t.claims.seq = s.claims.seq
  link : t.link = s.link
  pending : t.pending = s.pending

end Sys2Proof.Machine
end

