-- ==== Sys2Proof/Certificates/Slice0/Obligations.lean ====
section
/-! DEFINITION. The statements about the OL-2316 that are to be proved: one `def Obligations.<Name> : Prop` each. -/

open Sys2Proof Sys2Proof.Machine

/-! ## The step -/

/-- A step takes the command at the front of the queue and runs it on the state with the queue's rest. The queue is the
model's (log 2).
On an empty queue the part idles (the model's choice, log 2). -/
def Obligations.StepRunsFrontCommandOrIdles : Prop :=
  (∀ (c : Instr) (rest : List Instr) (s : State), s.pending = c :: rest → step s = exec c { s with pending := rest })
  ∧ (∀ s : State, s.pending = [] → step s = .next s)

/-- Every command completes in every state, and leaves the waiting commands alone: no state of the part stops it. (That a
command which names an event that cannot happen then still answers a next state is the model's choice: log 4; the waiting
commands are the model's queue: log 2.) -/
def Obligations.EveryCommandCompletes : Prop :=
  ∀ (c : Instr) (s : State), ∃ t, exec c s = .next t ∧ t.pending = s.pending

/-- The state after reset satisfies every law of the device stated below. (That RESET_N is released in it with the straps
at 0 is the model's choice: log 1; the pins and the line in it: log 14.) -/
def Obligations.ResetStateIsLawful : Prop :=
  State.reset.notices.Lawful ∧ State.reset.standing.Lawful ∧ State.reset.SilenceLawful ∧ State.reset.RosterLawful
    ∧ State.reset.ClaimsLawful ∧ State.reset.SlotsLawful ∧ State.reset.ListsLawful ∧ State.reset.AnswersLawful ∧ State.reset.ViewLawful

/-! ## Reset and tick -/

/-- Full reset sets every item to its full reset value, from any state. (The level of LK_SEL, the line and the queue are
not the part's to reset: log 14, log 2.)
The release of RESET_N latches the straps and starts the tick, and changes nothing else. -/
def Obligations.FullResetAndItsRelease : Prop :=
  (∀ s : State, ∃ t, exec .fullReset s = .next t
      ∧ t.claims = { clock := 0, seq := 0, table := [] } ∧ t.answers = [] ∧ t.roster = []
      ∧ t.view = List.replicate 256 .unknown
      ∧ t.line.roundType = .fixed ∧ t.line.base = 0 ∧ t.line.onLine = none
      ∧ t.scheduler = { presence := .empty, withdraw := .empty, order := [], alternation := 0, presenceDue := none }
      ∧ t.standing = { sendFaults := 0, receiveFaults := 0, standing := .sound, recoveryFrames := 0, recoveryQuiet := 0 }
      ∧ t.notices = { queue := [], next := 0, sessionMark := false, stationMarks := [], resourceMarks := [], attn := false }
      ∧ t.link = { selected := s.link.selected, phase := .idle, received := [], response := [], record := none,
                   sdo := .highImpedance }
      ∧ t.session.state = .setup ∧ t.session.config = none ∧ t.session.incarnation = 0 ∧ t.session.heardSet = []
      ∧ t.session.joinWindow = none ∧ t.session.ownPresence = none ∧ t.session.resetAsserted = true
      ∧ t.pending = s.pending)
  ∧ (∀ (x : Station) (s : State), s.session.resetAsserted = true →
      exec (.resetRelease x) s =
        .next { s with session := { s.session with resetAsserted := false, number := x, tick := 0 } })

/-- A tick with nothing left to take advances every timer of the part by one millisecond: the tick count, the join window
and PRESENCE due timers fall, the own-presence and silence timers rise, a silence timer at L × P makes the loss due, and
the recovery quiet count rises in SILENT when the line was quiet all through. Nothing else changes.
A tick takes the expiries that no step has taken before it advances the timers, and the tick does not run while RESET_N
is asserted. Those expiries are the ones of the seven expiry commands, taken in the order of log 3; what R113 gives at a HOLD
that met a loss is none of them (log 29). (That the tick takes them
is the model's choice, log 3; the unbounded tick count, log 12; what makes a tick
quiet, log 15.) -/
def Obligations.TickAdvancesEveryTimer : Prop :=
  (∀ s : State, s.session.resetAsserted = false → s.NothingDue →
      exec .tick s = .next { s with
        session := { s.session with
          tick := s.session.tick + 1
          joinWindow := s.session.joinWindow.map (· - 1)
          ownPresence := s.session.ownPresence.map (· + 1) }
        roster := s.roster.map fun m =>
          if m.silence < s.config.lossMs then { m with silence := m.silence + 1, lossMet := none }
          else { m with lossDue := true, lossMet := none }
        standing :=
          if s.session.state = .silent ∧ s.line.quietTick = true then
            { s.standing with recoveryQuiet := s.standing.recoveryQuiet + 1 }
          else s.standing
        scheduler := { s.scheduler with presenceDue := s.scheduler.presenceDue.map (· - 1) }
        line := { s.line with carrierInTick := s.line.busy } })
  ∧ (∀ s : State,
      (s.session.resetAsserted = true → exec .tick s = .next s)
      ∧ (s.session.resetAsserted = false → s.settle.NothingDue → s.settle.session.resetAsserted = false →
          exec .tick s = exec .tick s.settle)
      ∧ s.settle =
        State.runAll { s with roster := s.roster.map fun m => { m with lossMet := none } } expiriesInOrder)

/-! ## The host's commands

Each row is the check byte's edge of its transaction, or stands for the whole transaction (the model's choice, log 5):
`State.Ready` and `State.answer` say what that asks and leaves. -/

/-- CONFIGURE: refused with WRONG_STATE outside SETUP or while an own frame runs out, with BAD_VALUE when a value is out of
its range, each changing nothing; accepted otherwise, replacing every field and setting the given flag. The last clause
says which records the values give. -/
def Obligations.ConfigureFollowsItsChecks : Prop :=
  ∀ (a : ConfigureArgs) (s : State), s.Ready (.configure a) →
    ((s.session.state ≠ .setup ∨ s.line.onLine ≠ none) →
      exec (.configure a) s = .next (s.answer (.configure a) .wrongState []))
    ∧ (s.session.state = .setup → s.line.onLine = none → configureArg a = none →
      exec (.configure a) s = .next (s.answer (.configure a) .badValue []))
    ∧ (∀ c, s.session.state = .setup → s.line.onLine = none → configureArg a = some c →
      exec (.configure a) s =
        .next { s.answer (.configure a) .ok [] with session := { s.session with config := some c } })
    ∧ (∀ c, configureArg a = some c ↔
      a.role = c.role.code ∧ a.rate = c.rate.code
      ∧ c.period = a.period.toNat ∧ 1 ≤ c.period ∧ c.lossLimit = a.lossLimit.toNat ∧ 3 ≤ c.lossLimit ∧ c.lossLimit ≤ 15
      ∧ c.reply = a.reply.toNat ∧ 2 ≤ c.reply
      ∧ c.interest = a.interest ∧ (c.role = .contender → c.interest ≠ 0) ∧ c.watch = a.watch)

/-- START: refused outside SETUP and without a configuration; otherwise the receiver becomes active with a fixed round
type, and the station enters LISTENING with a stepped incarnation and a join window of 2 × P, or SILENT with recovery
starting when the standing is SILENCED. (That no activity in progress at START is counted, a peer's preamble included, is the
model's choice: log 32; one row for the transaction: log 5.) -/
def Obligations.StartFollowsItsChecks : Prop :=
  ∀ s : State, s.Ready .start →
    (s.session.state ≠ .setup → exec .start s = .next (s.answer .start .wrongState []))
    ∧ (s.session.state = .setup → s.session.config = none → exec .start s = .next (s.answer .start .notConfigured []))
    ∧ (∀ c, s.session.state = .setup → s.session.config = some c → s.standing.standing ≠ .silenced →
      exec .start s = .next { s.answer .start .ok [] with
        session := { s.session with
          state := .listening, incarnation := s.session.incarnation + 1, heardSet := []
          joinWindow := some (2 * (c.period * 10)), ownPresence := none }
        line := { s.line with roundType := .fixed, phase := s.line.phase.uncount }
        notices := s.notices.give (.session .listening .start none) })
    ∧ (∀ c, s.session.state = .setup → s.session.config = some c → s.standing.standing = .silenced →
      exec .start s = .next { s.answer .start .ok [] with
        session := { s.session with state := .silent }
        standing := { s.standing with recoveryFrames := 0, recoveryQuiet := 0 }
        line := { s.line with roundType := .fixed, phase := s.line.phase.uncount }
        notices := s.notices.give (.session .silent .start none) })

/-- LEAVE: in MEMBER session clear with one notice for each entry, then WITHDRAW requested and LEAVING, the roster kept; in
LISTENING, ANNOUNCING and OBSERVING the session is dropped without a frame, and the station is in SETUP; refused elsewhere.
A frame on the line runs out in every case. (Activity in progress when the receiver becomes inactive stays tracked: log 14.) (That every scheduler item is cleared outside MEMBER too is read by inference:
log 23.)
The notice that an entry gives at session clear, by the entry's state and the session cause: the table of R31. -/
def Obligations.LeaveEndsTheSession : Prop :=
  (∀ s : State, s.Ready .leave →
      (s.session.state = .member →
        exec .leave s = .next { s.answer .leave .ok [] with
          session := { s.session with state := .leaving, heardSet := [], joinWindow := none, ownPresence := none }
          claims := { s.claims with table := [] }
          answers := []
          view := List.replicate 256 .unknown
          line := { s.line with onLine := s.line.onLine.map fun f => { f with live := false } }
          scheduler := { presence := .empty, withdraw := .unsent, order := [.withdraw], alternation := 0,
                         presenceDue := none }
          notices := ((s.claims.table.map (clearNotice .leave)).foldl NoticeQueue.give s.notices).give
            (.session .leaving .leave none) })
      ∧ (s.session.state = .listening ∨ s.session.state = .announcing ∨ s.session.state = .observing →
        exec .leave s = .next { s.answer .leave .ok [] with
          session := { s.session with state := .setup, heardSet := [], joinWindow := none, ownPresence := none }
          claims := { s.claims with table := [] }
          answers := []
          roster := []
          view := List.replicate 256 .unknown
          line := { s.line with
            phase := s.line.phase.uncount, onLine := s.line.onLine.map fun f => { f with live := false } }
          scheduler := { presence := .empty, withdraw := .empty, order := [], alternation := 0, presenceDue := none }
          notices := s.notices.give (.session .setup .leave none) })
      ∧ (s.session.state = .setup ∨ s.session.state = .leaving ∨ s.session.state = .silent ∨ s.session.state = .halted →
        exec .leave s = .next (s.answer .leave .wrongState [])))
  ∧ (∀ (cause : SessionCause) (e : ClaimEntry),
      (e.state = .held ∨ (∃ c, e.state = .releasing c) ∧ e.wasHeld = true →
        clearNotice cause e =
          if cause = .leave then .closed e.resource .released (some .leave) else .revoked e.resource cause)
      ∧ (∀ c, e.state = .releasing c → e.wasHeld = false → clearNotice cause e = .closed e.resource c (some cause))
      ∧ (e.state = .wanted ∨ e.state = .queued → clearNotice cause e = .closed e.resource .abandoned (some cause)))

/-- CLAIM: the eight checks in their order, the first that fails decides the response and nothing else changes; a command
that passes them all steps the sequence counter, creates the QUEUED entry with the values of R7 and its patience deadline,
places its first CLAIM request as the newest, and answers the sequence. -/
def Obligations.ClaimFollowsItsChecks : Prop :=
  ∀ (resource patience : BitVec 16) (s : State), s.Ready (.claim resource patience) →
    (s.session.state ≠ .member → s.session.state ≠ .observing →
      exec (.claim resource patience) s = .next (s.answer (.claim resource patience) .wrongState []))
    ∧ (s.session.state = .member ∨ s.session.state = .observing →
      (s.config.role = .observer →
        exec (.claim resource patience) s = .next (s.answer (.claim resource patience) .role []))
      ∧ (s.config.role = .contender →
        (256 ≤ resource.toNat →
          exec (.claim resource patience) s = .next (s.answer (.claim resource patience) .badValue []))
        ∧ ∀ r : Resource, resource.toNat = r.val →
          let refused := fun st => exec (.claim resource patience) s = .next (s.answer (.claim resource patience) st [])
          if inGroups s.config.interest r = false then refused .notInterested
          else if s.standing.standing = .impaired then refused .impaired
          else if s.claims.clock = 0xFFFFFFFFFFFF then refused .exhausted
          else if (∃ e ∈ s.claims.table, e.resource = r) then refused .duplicate
          else if 16 ≤ s.claims.table.length then refused .tableFull
          else
            exec (.claim resource patience) s = .next
              { s.answer (.claim resource patience) .ok [byteOf (s.claims.seq + 1).val] with
                claims := { s.claims with
                  seq := s.claims.seq + 1
                  table := insertAsc (fun e => e.resource.val)
                    { resource := r, seq := s.claims.seq + 1, state := .queued, stamp := none, announced := false,
                      wasHeld := false, awaiting := [], waiters := [],
                      patience := if patience = 0 then none else some (s.session.tick + patience.toNat),
                      resendDue := none, resendCount := 0, slot := { onLine := none, unsent := some .firstClaim } }
                    s.claims.table }
                scheduler := { s.scheduler with
                  order := s.scheduler.order.filter (· != .entry r) ++ [.entry r] } }))

/-- RELEASE against each entry state: refused BAD_VALUE, NO_ENTRY, NOT_HELD and BUSY with nothing changed, and from HELD
the entry enters RELEASING with close reason released.
What entry to RELEASING does to the table and the slots: the close reason is set, awaiting set, waiters, re-send due
and patience are emptied, and the FREE replaces any unsent request as the newest. -/
def Obligations.ReleaseFollowsItsTable : Prop :=
  (∀ (resource : BitVec 16) (s : State), s.Ready (.release resource) →
      let c := Instr.release resource
      (256 ≤ resource.toNat → exec c s = .next (s.answer c .badValue []))
      ∧ ∀ r : Resource, resource.toNat = r.val →
        (s.entry? r = none → exec c s = .next (s.answer c .noEntry []))
        ∧ ∀ e, s.entry? r = some e →
          (e.state = .queued ∨ e.state = .wanted → exec c s = .next (s.answer c .notHeld []))
          ∧ (e.state = .held → exec c s = .next ((s.enterReleasing r .released).answer c .ok []))
          ∧ (∀ reason, e.state = .releasing reason → exec c s = .next (s.answer c .busy [])))
  ∧ (∀ (r : Resource) (reason : CloseReason) (s : State),
      s.enterReleasing r reason = { s with
        claims := { s.claims with table := s.claims.table.map fun e =>
          if e.resource = r then
            { e with state := .releasing reason, awaiting := [], waiters := [], resendDue := none, patience := none
                     slot := { e.slot with unsent := some (.free reason) } }
          else e }
        scheduler := { s.scheduler with order := s.scheduler.order.filter (· != .entry r) ++ [.entry r] } })

/-- ABANDON against each entry state: a QUEUED entry is removed with no frame and no notice, its slot emptied and its
frame, if one is on the line, running out; a WANTED entry enters RELEASING with close reason abandoned; refused otherwise. -/
def Obligations.AbandonFollowsItsTable : Prop :=
  ∀ (resource : BitVec 16) (s : State), s.Ready (.abandon resource) →
    let c := Instr.abandon resource
    (256 ≤ resource.toNat → exec c s = .next (s.answer c .badValue []))
    ∧ ∀ r : Resource, resource.toNat = r.val →
      (s.entry? r = none → exec c s = .next (s.answer c .noEntry []))
      ∧ ∀ e, s.entry? r = some e →
        (e.state = .queued → exec c s = .next { s.answer c .ok [] with
          claims := { s.claims with table := s.claims.table.filter fun x => x.resource != r }
          scheduler := { s.scheduler with order := s.scheduler.order.filter (· != .entry r) }
          line := s.line.cutLoose fun f => f.entryResource? == some r })
        ∧ (e.state = .wanted → exec c s = .next ((s.enterReleasing r .abandoned).answer c .ok []))
        ∧ (e.state = .held → exec c s = .next (s.answer c .held []))
        ∧ (∀ reason, e.state = .releasing reason → exec c s = .next (s.answer c .busy []))

/-- QUERY, ROSTER, PEER and STATUS answer from the state as it stands and change the Link Port alone.
The bytes of STATUS: the items of R185 in the layout of R192, 28 bytes in all.
The bytes of the other three: the view part and the claim part of QUERY, the record of ROSTER, the data of PEER, in the
layouts of R192. (The hold sequence byte of an absent holder record is the model's, log 30, and so are the bits of the flags
bytes that R192 does not name, log 33.) -/
def Obligations.ReadCommandsChangeTheLinkAlone : Prop :=
  ((∀ (resource : BitVec 16) (s : State), s.Ready (.query resource) →
      (256 ≤ resource.toNat → exec (.query resource) s = .next (s.answer (.query resource) .badValue []))
      ∧ ∀ r : Resource, resource.toNat = r.val →
        exec (.query resource) s = .next (s.answer (.query resource) .ok
          (viewPart r (viewAt s.view r) ++
            match s.entry? r with
            | none => []
            | some e => claimPart s.session.tick e)))
    ∧ (∀ s : State, s.Ready .roster → exec .roster s = .next (s.answer .roster .ok (s.roster.flatMap rosterRecord)))
    ∧ (∀ (b : Byte) (s : State), s.Ready (.peer b) →
      (32 ≤ b.toNat → exec (.peer b) s = .next (s.answer (.peer b) .badValue []))
      ∧ ∀ x : Station, b.toNat = x.val →
        (s.member? x = none → exec (.peer b) s = .next (s.answer (.peer b) .noEntry []))
        ∧ ∀ m, s.member? x = some m → exec (.peer b) s = .next (s.answer (.peer b) .ok (peerRecord m)))
    ∧ (∀ s : State, s.Ready .status → exec .status s = .next (s.answer .status .ok s.statusBytes)))
  ∧ (∀ s : State,
      s.statusBytes =
        [s.session.state.code, (match s.session.config with | none => 0xFF | some c => c.role.code),
         byteOf s.session.number.val, byteOf s.session.incarnation.val,
         s.standing.standing.code, byteOf s.standing.sendFaults, byteOf s.standing.receiveFaults,
         byteOf s.standing.recoveryFrames]
        ++ bytesBE 2 s.standing.recoveryQuiet ++ bytesBE 6 s.claims.clock.toNat
        ++ [byteOf s.claims.table.length, byteOf s.answers.length, byteOf s.notices.queue.length,
            byteOf ((if s.notices.marksPending then 1 else 0) + (if s.session.config = none then 0 else 2))]
        ++ (match s.session.config with
            | none => List.replicate 8 0
            | some c => [c.rate.code, byteOf c.period, byteOf c.lossLimit, byteOf c.reply]
                ++ bytesBE 2 c.interest.toNat ++ bytesBE 2 c.watch.toNat))
  ∧ (∀ (r : Resource) (x : Station) (i : Incarnation) (q : ClaimSeq) (first latest : Holder),
      holderBytes none = [0xFF, 0, 0, 0]
      ∧ holderBytes (some (.own q)) = [0x40, 0, 3, byteOf q.val]
      ∧ holderBytes (some (.peer x i (.hold q))) = [byteOf x.val, byteOf i.val, 1, byteOf q.val]
      ∧ holderBytes (some (.peer x i .presence)) = [byteOf x.val, byteOf i.val, 2, 0]
      ∧ viewPart r .unknown = [byteOf r.val, 0] ++ holderBytes none ++ holderBytes none
      ∧ viewPart r .free = [byteOf r.val, 1] ++ holderBytes none ++ holderBytes none
      ∧ viewPart r (.held (.peer x i .presence)) =
          [byteOf r.val, 2] ++ holderBytes (some (.peer x i .presence)) ++ holderBytes none
      ∧ viewPart r (.held (.peer x i (.hold q))) =
          [byteOf r.val, 2] ++ holderBytes (some (.peer x i (.hold q))) ++ holderBytes none
      ∧ viewPart r (.held (.own q)) = [byteOf r.val, 3] ++ holderBytes (some (.own q)) ++ holderBytes none
      ∧ viewPart r (.contested first latest) =
          [byteOf r.val, 4] ++ holderBytes (some first) ++ holderBytes (some latest))
  ∧ (∀ (tick : Nat) (e : ClaimEntry),
      claimPart tick e =
        [match e.state with | .queued => 1 | .wanted => 2 | .held => 3 | .releasing _ => 4, byteOf e.seq.val]
        ++ bytesBE 6 (match e.stamp with | none => 0 | some t => t.toNat)
        ++ [byteOf ((if e.announced then 1 else 0) + (if e.wasHeld then 2 else 0) + (if e.patience = none then 0 else 4)),
            match e.state with
            | .releasing .released => 1 | .releasing .abandoned => 2 | .releasing .expired => 3
            | .queued | .wanted | .held => 0,
            byteOf e.awaiting.length, byteOf e.waiters.length]
        ++ (match e.waiters with
            | [] => List.replicate 8 0
            | w :: _ => [byteOf w.station.val, byteOf w.seq.val] ++ bytesBE 6 w.stamp.toNat)
        ++ [byteOf e.resendCount] ++ bytesBE 2 (match e.patience with | none => 0 | some d => d - tick)
        ++ e.awaiting.map fun x => byteOf x.val)
  ∧ (∀ m : Member,
      let standing : Byte := match m.standing with | .sound => 0 | .impaired => 1
      rosterRecord m = [byteOf m.station.val, byteOf m.incarnation.val] ++ bytesBE 2 m.interest.toNat ++ [standing]
        ++ bytesBE 2 m.silence ++ [byteOf m.held.length]
      ∧ peerRecord m = [byteOf m.station.val, byteOf m.incarnation.val] ++ bytesBE 2 m.interest.toNat
        ++ [standing, if m.heardUs then 1 else 0] ++ bytesBE 2 m.silence ++ [byteOf m.held.length]
        ++ m.held.map fun r => byteOf r.val)

/-- FETCH answers with the head notice's record, the queue fill and the marks-pending flag, or EMPTY, and leaves the queue,
the marks and the counter as they are.
DISMISS: EMPTY on an empty queue, STALE on another number than the head's; otherwise the head leaves, a SUMMARY of the
first set mark takes the freed place and clears its mark (session, then stations, then resources), and ATTN follows.
What each SUMMARY reports (R169 to R171), and the bytes of every notice record (R193). (Bits 7 to 1 of the flags byte are
the model's: log 33.) -/
def Obligations.FetchAndDismissAtTheHead : Prop :=
  (∀ s : State, s.Ready .fetch →
      (s.notices.queue = [] → exec .fetch s = .next (s.answer .fetch .empty []))
      ∧ ∀ n rest, s.notices.queue = n :: rest →
        exec .fetch s = .next (s.answer .fetch .ok
          (n.bytes ++ [byteOf s.notices.queue.length, byteOf (if s.notices.marksPending then 1 else 0)])))
  ∧ (∀ (b : Byte) (s : State), s.Ready (.dismiss b) →
      (s.notices.queue = [] → exec (.dismiss b) s = .next (s.answer (.dismiss b) .empty []))
      ∧ ∀ n rest, s.notices.queue = n :: rest →
        (n.number.val ≠ b.toNat → exec (.dismiss b) s = .next (s.answer (.dismiss b) .stale []))
        ∧ (n.number.val = b.toNat →
          let summary := fun (q : NoticeQueue) (body : NoticeBody) =>
            { q with queue := rest ++ [{ number := s.notices.next, body := body }], next := s.notices.next + 1
                     attn := true }
          let q : NoticeQueue :=
            if s.notices.sessionMark = true then summary { s.notices with sessionMark := false } s.summarySession
            else match s.notices.stationMarks, s.notices.resourceMarks with
              | x :: more, _ => summary { s.notices with stationMarks := more } (s.summaryStation x)
              | [], r :: more => summary { s.notices with resourceMarks := more } (s.summaryResource r)
              | [], [] => { s.notices with queue := rest, attn := !rest.isEmpty }
          exec (.dismiss b) s = .next
            { s.answer (.dismiss b) .ok [byteOf q.queue.length, byteOf (if q.marksPending then 1 else 0)] with
              notices := q }))
  ∧ (∀ (s : State) (x : Station) (r : Resource),
      s.summarySession = .summarySession s.session.state s.session.incarnation s.standing.standing s.standing.sendFaults
        s.standing.receiveFaults s.claims.table.length
      ∧ (s.member? x = none → s.summaryStation x = .summaryStation x none)
      ∧ (∀ m, s.member? x = some m → s.summaryStation x = .summaryStation x
          (some { incarnation := m.incarnation, standing := m.standing, heardUs := m.heardUs, heldCount := m.held.length }))
      ∧ (s.entry? r = none → s.summaryResource r = .summaryResource r (viewAt s.view r).shownState
          ((viewAt s.view r).first.map Holder.identity) ((viewAt s.view r).latest.map Holder.identity) none)
      ∧ (∀ e, s.entry? r = some e → s.summaryResource r = .summaryResource r (viewAt s.view r).shownState
          ((viewAt s.view r).first.map Holder.identity) ((viewAt s.view r).latest.map Holder.identity)
          (some { state := e.state, seq := e.seq })))
  ∧ (∀ (k : NoticeNumber) (r : Resource) (x : Station) (i : Incarnation) (n a b fill : Nat) (standing : Standing)
      (state : StationState) (heard : Bool) (first latest : Option Identity) (h g : Holder) (v : ViewState)
      (q : ClaimSeq),
      let identity : Option Identity → List Byte := fun y => match y with
        | none => [0xFF, 0]
        | some .own => [0x40, 0]
        | some (.peer z j) => [byteOf z.val, byteOf j.val]
      let record := fun (body : NoticeBody) (kind class_ value : Byte) (detail : List Byte) =>
        (Notice.mk k body).bytes = [byteOf k.val, kind, class_, value, byteOf detail.length] ++ detail
      record (.granted r) 1 2 (byteOf r.val) []
      ∧ (∀ reason cause, record (.closed r reason cause) 2 2 (byteOf r.val)
          [match reason with | .released => 1 | .abandoned => 2 | .expired => 3,
           match cause with
           | none => 0 | some .leave => 1 | some .lapse => 2 | some .silenced => 3 | some .duplicate => 4])
      ∧ (∀ cause, record (.revoked r cause) 3 2 (byteOf r.val)
          [match cause with | .leave => 1 | .lapse => 2 | .silenced => 3 | .duplicate => 4])
      ∧ record (.conflict r h g) 4 2 (byteOf r.val) (holderBytes (some h) ++ holderBytes (some g))
      ∧ record (.view r v first latest) 5 2 (byteOf r.val)
          ([match v with | .unknown => 0 | .free => 1 | .heldPeer => 2 | .heldLocal => 3 | .contested => 4]
            ++ identity first ++ identity latest)
      ∧ (∀ event, record (.peer x event i) 6 1 (byteOf x.val)
          [match event with | .joined => 1 | .renewed => 2 | .lost => 3 | .left => 4, byteOf i.val])
      ∧ record (.standing standing a b) 7 0 0
          [match standing with | .sound => 0 | .impaired => 1 | .silenced => 2, byteOf a, byteOf b]
      ∧ (∀ cause omitting, record (.session state cause omitting) 8 0 0
          [state.code,
           match cause with
           | .start => 1 | .window => 2 | .announced => 3 | .leave => 4 | .withdrawn => 5 | .lapse => 6 | .silenced => 7
           | .recovered => 8 | .duplicate => 9,
           match omitting with | none => 0xFF | some z => byteOf z.val])
      ∧ record (.summarySession state i standing a b fill) 9 0 0
          [state.code, byteOf i.val, standing.code, byteOf a, byteOf b, byteOf fill]
      ∧ record (.summaryStation x none) 9 1 (byteOf x.val) [0, 0, 0, 0, 0]
      ∧ (∀ st, record (.summaryStation x (some { incarnation := i, standing := st, heardUs := heard, heldCount := n }))
          9 1 (byteOf x.val)
          [1, byteOf i.val, match st with | .sound => 0 | .impaired => 1, if heard then 1 else 0, byteOf n])
      ∧ record (.summaryResource r v first latest none) 9 2 (byteOf r.val)
          ([v.code] ++ identity first ++ identity latest ++ [0, 0, 0])
      ∧ (∀ c, record (.summaryResource r v first latest (some { state := c, seq := q })) 9 2 (byteOf r.val)
          ([v.code] ++ identity first ++ identity latest
            ++ [1, match c with | .queued => 1 | .wanted => 2 | .held => 3 | .releasing _ => 4, byteOf q.val])))
  ∧ [StationState.setup, .listening, .announcing, .member, .observing, .leaving, .silent, .halted].map StationState.code =
      [0, 1, 2, 3, 4, 5, 6, 7]

/-- REPEAT answers from the record, EMPTY when there is none, and leaves the record and every block as they were. -/
def Obligations.RepeatAnswersFromTheRecord : Prop :=
  ∀ s : State, s.Ready .repeatLast →
    let answer : Response :=
      match s.link.record with
      | none => { status := .empty, data := [] }
      | some k => { status := k.response.status, data := k.code :: k.check :: k.response.data }
    exec .repeatLast s = .next { s with
      link := { s.link with
        selected := true, phase := .turnaround 0, received := [0x0D, 0x00], response := answer.bytes
        sdo := .driven 0xFF } }

/-! ## The local link -/

/-- The three tests of a check byte, in their order.
A transaction that fails a test answers its error status with no data, and leaves the record and every block as they
were; one whose bytes pass every test is the command that they spell (log 6). (That the row may stand for its whole
transaction, in any phase, and then leaves LK_SEL asserted, is the model's choice: log 5.) -/
def Obligations.TransactionErrorsByTheThreeTests : Prop :=
  (∀ (code len : Byte) (args : List Byte) (check : Byte), args.length = len.toNat →
      let frame := code :: len :: args
      (check ≠ crc8 frame → linkVerdict frame check = .error .linkCrc)
      ∧ (check = crc8 frame →
        (code.toNat = 0 ∨ 13 < code.toNat → linkVerdict frame check = .error .unknownCommand)
        ∧ (∀ n, argumentLength code = some n → len.toNat ≠ n → linkVerdict frame check = .error .badLength)
        ∧ (∀ n, argumentLength code = some n → len.toNat = n →
            ∃ c, linkVerdict frame check = .taken c ∧ linkFrame c = frame)))
  ∧ (∀ (frame : List Byte) (check : Byte) (s : State), linkFrameWhole frame = true → s.session.resetAsserted = false →
      (s.link.phase = .command → s.link.received = [] ∨ s.link.received = frame) →
      (∀ st, linkVerdict frame check = .error st →
        exec (.linkTransactionError frame check) s = .next { s with
          link := { s.link with
            selected := true, phase := .turnaround 0, received := frame
            response := [st.code, 0x00, crc8 [st.code, 0x00]], sdo := .driven 0xFF } })
      ∧ (∀ c, linkVerdict frame check = .taken c → exec (.linkTransactionError frame check) s = exec c s))

/-- A selection begins in COMMAND with both buffers empty and LK_SDO driven, and ends in IDLE with LK_SDO high impedance
from any phase; the record stays, and no block receives anything. While RESET_N is asserted only the pin moves. (The pin
as state: log 14; what the buffers keep after the check byte: log 26.) -/
def Obligations.SelectionFramesATransaction : Prop :=
  ∀ s : State,
    (s.link.selected = false → s.session.resetAsserted = false →
      exec .transactionBegin s = .next { s with
        link := { selected := true, phase := .command, received := [], response := [], record := s.link.record,
                  sdo := .driven 0xFF } })
    ∧ (s.link.selected = false → s.session.resetAsserted = true →
      exec .transactionBegin s = .next { s with link := { s.link with selected := true } })
    ∧ (s.link.selected = true →
      exec .transactionEnd s = .next { s with
        link := { s.link with
          selected := false, phase := .idle, sdo := .highImpedance
          received := if s.link.phase = .command then [] else s.link.received } })

/-- A byte that the host clocks: gathered in COMMAND until the frame is whole, then its check byte; two turnaround bytes;
the response frame byte by byte; fill in DONE. In IDLE it is not taken. (The byte as the unit: log 19, log 20; the check
byte's place: log 6.) -/
def Obligations.ClockedByteByPhase : Prop :=
  ∀ (b : Byte) (s : State),
    (s.link.phase = .idle → exec (.byteClocked b) s = .next s)
    ∧ (s.link.phase = .command → linkFrameWhole s.link.received = false →
      exec (.byteClocked b) s = .next { s with
        link := { s.link with received := s.link.received ++ [b], sdo := .driven 0xFF } })
    ∧ (s.link.phase = .command → linkFrameWhole s.link.received = true → s.session.resetAsserted = false →
      exec (.byteClocked b) s = exec (.linkTransactionError s.link.received b) s)
    ∧ (∀ k, s.link.phase = .turnaround k →
      exec (.byteClocked b) s = .next { s with
        link := { s.link with
          phase := if k = 0 then .turnaround 1 else .response 0
          sdo := .driven 0xFF } })
    ∧ (∀ k, s.link.phase = .response k →
      exec (.byteClocked b) s = .next { s with
        link := { s.link with
          phase := if k + 1 < s.link.response.length then .response (k + 1) else .done
          sdo := .driven (s.link.response.getD k 0xFF) } })
    ∧ (s.link.phase = .done → exec (.byteClocked b) s = .next { s with link := { s.link with sdo := .driven 0xFF } })

/-! ## Received frames

A received frame brings its own carrier (the model's choice, log 8): `State.Took` says so. -/

/-- A valid frame raises the clock to its sender clock, never lowers it, and makes its source the last source, in every
state in which the receiver is active; in SILENT nothing else but the recovery progress changes before recovery completes.
(The frame's own carrier is implied: log 8.)
What counting a valid frame gives to the notice queue, before every other notice of the frame: outside SILENT a STANDING
notice with the counts when the count moves the standing, and nothing otherwise. How the standing follows from the counts. -/
def Obligations.ValidFrameRaisesTheClock : Prop :=
  (∀ (c : Instr) (f : Frame) (s : State), frameOf c = some f → frameValid f = true → s.Hearing →
    ∃ t, exec c s = .next t
      ∧ t.claims.clock = (if s.claims.clock < f.header.clock then f.header.clock else s.claims.clock)
      ∧ t.claims.seq = s.claims.seq ∧ t.line.base = f.header.source ∧ t.line.carrierInTick = true
      ∧ t.link = s.link ∧ t.pending = s.pending
      ∧ (s.session.state = .silent → s.standing.recoveryFrames + 1 < 48 →
        t.session = s.session ∧ t.claims.table = s.claims.table ∧ t.answers = s.answers ∧ t.roster = s.roster
        ∧ t.view = s.view ∧ t.scheduler = s.scheduler ∧ t.notices = s.notices
        ∧ t.standing = { s.standing with recoveryFrames := s.standing.recoveryFrames + 1, recoveryQuiet := 0 }))
  ∧ (∀ s : State,
      (s.session.state = .silent → s.countValid.notices = s.notices)
      ∧ (s.session.state ≠ .silent →
        let n := s.standing.receiveFaults - 1
        let st := deriveStanding s.standing.standing s.standing.sendFaults n
        s.countValid.notices =
          if st = s.standing.standing then s.notices else s.notices.give (.standing st s.standing.sendFaults n)))
  ∧ (∀ (st : Standing) (a b : Nat),
      deriveStanding st a b = if st = .silenced then .silenced else if a < 120 ∧ b < 120 then .sound else .impaired)

/-- In SILENT a valid frame counts toward recovery and stops after the clock; the 48th completes recovery: counts 0,
standing SOUND, STANDING, then LISTENING with a stepped incarnation, a join window and a fixed round type. -/
def Obligations.SilentFramesCountForRecovery : Prop :=
  ∀ (c : Instr) (f : Frame) (s : State), frameOf c = some f → frameValid f = true → s.Hearing → s.session.state = .silent →
    let clock := if s.claims.clock < f.header.clock then f.header.clock else s.claims.clock
    let line := { s.line with phase := .quiet, roundType := .rotating, base := f.header.source, carrierInTick := true }
    (s.standing.recoveryFrames + 1 < 48 →
      exec c s = .next { s with
        claims := { s.claims with clock := clock }
        line := line
        standing := { s.standing with recoveryFrames := s.standing.recoveryFrames + 1, recoveryQuiet := 0 } })
    ∧ (s.standing.recoveryFrames + 1 = 48 →
      exec c s = .next { s with
        claims := { s.claims with clock := clock }
        line := { line with roundType := .fixed }
        standing := { sendFaults := 0, receiveFaults := 0, standing := .sound, recoveryFrames := 0, recoveryQuiet := 0 }
        session := { s.session with
          state := .listening, incarnation := s.session.incarnation + 1, heardSet := []
          joinWindow := some (2 * s.config.periodMs), ownPresence := none }
        notices := (s.notices.give (.standing .sound 0 0)).give (.session .listening .recovered none) })

/-- A valid frame from the own station number, outside SILENT, ends the session and halts the station, whatever its kind:
one notice for each claim, then SESSION(halted, duplicate). -/
def Obligations.OwnNumberHaltsTheStation : Prop :=
  ∀ (c : Instr) (f : Frame) (s : State), frameOf c = some f → frameValid f = true → s.Hearing →
    s.session.state ≠ .silent → f.header.source = s.session.number →
    ∃ t, exec c s = .next t
      ∧ t.session = { s.session with state := .halted, heardSet := [], joinWindow := none, ownPresence := none }
      ∧ t.claims = { s.claims with
          clock := if s.claims.clock < f.header.clock then f.header.clock else s.claims.clock, table := [] }
      ∧ t.answers = [] ∧ t.roster = [] ∧ t.view = List.replicate 256 .unknown
      ∧ t.scheduler = { presence := .empty, withdraw := .empty, order := [], alternation := 0, presenceDue := none }
      ∧ t.line.phase = .quiet ∧ t.line.onLine = none ∧ t.link = s.link ∧ t.pending = s.pending
      ∧ t.notices = ((s.claims.table.map (clearNotice .duplicate)).foldl NoticeQueue.give s.countValid.notices).give
          (.session .halted .duplicate none)

/-- A receive fault counts two, up to 240, makes the next round fixed and leaves the rotation base; in SILENT it sets both
recovery counts to 0 instead. A frame that fails a content check, and bytes that fail a check, are receive faults; bytes
that pass every check are the frame they spell (log 7). The standing follows the counts; nothing else changes but a
STANDING notice when it moves.
Received bytes that pass every check of R122 and R123 act as the frame that they spell (log 7). Received cells without a
frame between delimiters are a receive fault, and others act as the bytes between the delimiters (log 31). -/
def Obligations.ReceiveFaultCounts : Prop :=
  (∀ (c : Instr) (s : State), s.Hearing →
      (c = .receiveFault .codeViolation ∨ c = .receiveFault .cutShort
        ∨ (∃ bs, c = .receiveFault (.bytes bs) ∧ frameOfBytes bs = none)
        ∨ (∃ cs, c = .receiveFault (.cells cs) ∧ framedBytes cs = none)
        ∨ (∃ f, frameOf c = some f ∧ frameValid f = false)) →
      let line := { s.line with phase := .quiet, roundType := .fixed, carrierInTick := true }
      let n := min 240 (s.standing.receiveFaults + 2)
      let st := deriveStanding s.standing.standing s.standing.sendFaults n
      (s.session.state = .silent →
        exec c s = .next { s with
          line := line, standing := { s.standing with recoveryFrames := 0, recoveryQuiet := 0 } })
      ∧ (s.session.state ≠ .silent →
        exec c s = .next { s with
          line := line
          standing := { s.standing with receiveFaults := n, standing := st }
          notices := if st = s.standing.standing then s.notices
                     else s.notices.give (.standing st s.standing.sendFaults n) }))
  ∧ (∀ (c : Instr) (f : Frame) (bs : List Byte) (s : State), frameOf c = some f → frameOfBytes bs = some f →
      exec (.receiveFault (.bytes bs)) s = exec c s)
  ∧ (∀ (cs : List LineCell) (bs : List Byte) (s : State), framedBytes cs = some bs →
      exec (.receiveFault (.cells cs)) s = exec (.receiveFault (.bytes bs)) s)

/-- GRANT: one that targets the own station and matches an announced WANTED entry that awaits its source is counted: the
source leaves the awaiting set, and the last one makes the entry HELD, with its HOLD placed, its GRANTs withdrawn and the
own hold in the view, and GRANTED before the view's notices. Any other GRANT leaves the claim table, the answer queue, the
slots and the view as they are, and gives no notice. -/
def Obligations.GrantReceivedIsAnAnswer : Prop :=
  ∀ (h : Header) (x : Station) (r : Resource) (q : ClaimSeq) (s : State), s.TakesFrom h → s.NoPurge h →
    ∃ t, exec (.receiveGrant h x r q) s = .next t ∧ s.Took t h ∧ t.roster = restarted h.source s.roster
      ∧ ((x ≠ s.session.number ∨ (∀ e, s.entry? r = some e → e.seq ≠ q ∨ ¬ e.AwaitsAnswer h.source)) →
        t.claims.table = s.claims.table ∧ t.answers = s.answers ∧ t.scheduler = s.scheduler ∧ t.view = s.view
        ∧ t.notices = s.countValid.notices)
      ∧ (∀ e, x = s.session.number → s.entry? r = some e → e.seq = q → e.AwaitsAnswer h.source →
        t.entry? r = some (e.countAnswer h.source) ∧ (∀ r', r' ≠ r → t.entry? r' = s.entry? r')
        ∧ (e.awaiting.filter (· != h.source) ≠ [] →
          t.answers = s.answers ∧ t.scheduler = s.scheduler ∧ t.view = s.view ∧ t.notices = s.countValid.notices)
        ∧ (e.awaiting.filter (· != h.source) = [] →
          t.answers = s.answers.filter (fun g => g.resource != r)
          ∧ t.scheduler = { s.scheduler with order := s.scheduler.order.filter (· != .entry r) ++ [.entry r] }
          ∧ t.view = s.view.set r.val ((viewAt s.view r).add (.own e.seq)).1
          ∧ t.notices = (NoticeBody.granted r :: viewNotices (if ((viewAt s.view r).add (.own e.seq)).2 then [r] else [])
              s.viewWatch 0 s.view t.view).foldl NoticeQueue.give s.countValid.notices))

/-- The decision on a peer claim: granted against no entry, a QUEUED or RELEASING one and a WANTED one that it outranks;
deferred against a HELD entry and a WANTED one that outranks it. -/
def Obligations.AnswerDecisionFollowsTheTable : Prop :=
  ∀ (own p : Station) (t : Clock),
    answerDecision own none t p = .grant
    ∧ ∀ e : ClaimEntry,
      (e.state = .queued → answerDecision own (some e) t p = .grant)
      ∧ (∀ c, e.state = .releasing c → answerDecision own (some e) t p = .grant)
      ∧ (e.state = .held → answerDecision own (some e) t p = .defer)
      ∧ (∀ st, e.state = .wanted → e.stamp = some st →
        (t < st ∨ t = st ∧ p < own → answerDecision own (some e) t p = .grant)
        ∧ (¬ (t < st ∨ t = st ∧ p < own) → answerDecision own (some e) t p = .defer))

/-- How a GRANT decision is taken into the answer queue: nothing is added to a queue that holds the same item; a stale item
for the target and resource is withdrawn and the new one joins at the tail; with neither, it joins the tail of a queue of
fewer than 16 and is dropped by a full one. In every case the queue keeps at most one GRANT per target and resource. -/
def Obligations.GrantDecisionJoinsTheQueue : Prop :=
  ∀ (queue : List GrantItem) (g : GrantItem),
    (g ∈ queue → joinAnswers queue g = some queue)
    ∧ (g ∉ queue → (∃ x ∈ queue, x.target = g.target ∧ x.resource = g.resource) →
      joinAnswers queue g =
        some (queue.filter (fun x => !(x.target == g.target && x.resource == g.resource)) ++ [g]))
    ∧ (g ∉ queue → (∀ x ∈ queue, ¬ (x.target = g.target ∧ x.resource = g.resource)) →
      (queue.length < 16 → joinAnswers queue g = some (queue ++ [g]))
      ∧ (16 ≤ queue.length → joinAnswers queue g = none))
    ∧ (∀ after, queue.Pairwise (fun a b => ¬ (a.target = b.target ∧ a.resource = b.resource)) →
      joinAnswers queue g = some after →
      after.Pairwise (fun a b => ¬ (a.target = b.target ∧ a.resource = b.resource)))

/-- CLAIM: answered in MEMBER by a contender, from a member of the frame's incarnation, in the own interest set. A granted
claim joins the answer queue; a stale waiters item of a WANTED entry goes, and a claimant that an announced WANTED entry no
longer awaits is awaited again with its re-send placed; a full queue drops all of it (log 16). A deferred claim is recorded
by an entry that can record it. A claim that is not answered changes nothing but what every frame changes. (The re-send is
placed within the event: log 9.)
How a deferral is recorded: unchanged when the station's item has the sequence already, and otherwise in the place of the
station's other item, if any, in ascending claim priority. -/
def Obligations.ClaimReceivedIsAnswered : Prop :=
  (∀ (h : Header) (r : Resource) (q : ClaimSeq) (stamp : Clock) (s : State), s.TakesFrom h → s.NoPurge h →
    ∃ t, exec (.receiveClaim h r q stamp) s = .next t ∧ s.Took t h ∧ t.roster = restarted h.source s.roster
      ∧ t.view = s.view ∧ t.notices = s.countValid.notices
      ∧ let answered := s.session.state = .member ∧ s.config.role = .contender
          ∧ (∃ m, s.member? h.source = some m ∧ m.incarnation = h.incarnation) ∧ inGroups s.config.interest r = true
        let decision := answerDecision s.session.number (s.entry? r) stamp h.source
        let joined := joinAnswers s.answers { target := h.source, resource := r, seq := q }
        (¬ answered → t.claims.table = s.claims.table ∧ t.answers = s.answers ∧ t.scheduler = s.scheduler)
        ∧ (answered → decision = .defer →
          t.answers = s.answers ∧ t.scheduler = s.scheduler
          ∧ t.claims.table = s.claims.table.map fun e =>
              if e.resource = r ∧ e.recordsDeferrals = true then
                e.recordWaiter { station := h.source, stamp := stamp, seq := q }
              else e)
        ∧ (answered → decision = .grant → joined = none →
          t.claims.table = s.claims.table ∧ t.answers = s.answers ∧ t.scheduler = s.scheduler)
        ∧ (∀ queue, answered → decision = .grant → joined = some queue →
          t.answers = queue ∧ (∀ r', r' ≠ r → t.entry? r' = s.entry? r')
          ∧ (s.entry? r = none → t.entry? r = none ∧ t.scheduler = s.scheduler)
          ∧ ∀ e, s.entry? r = some e →
            (e.state ≠ .wanted → t.entry? r = some e ∧ t.scheduler = s.scheduler)
            ∧ (e.state = .wanted →
              let kept := e.waiters.filter fun w => !(w.station == h.source && w.seq != q)
              (e.announced = true ∧ h.source ∉ e.awaiting →
                t.entry? r = some { e with
                  waiters := kept, awaiting := insertStation h.source e.awaiting, resendDue := none
                  slot := { e.slot with unsent := some (e.slot.unsent.getD .resend) } }
                ∧ t.scheduler = if e.slot.unsent = none then
                    { s.scheduler with order := s.scheduler.order.filter (· != .entry r) ++ [.entry r] } else s.scheduler)
              ∧ (¬ (e.announced = true ∧ h.source ∉ e.awaiting) →
                t.entry? r = some { e with waiters := kept } ∧ t.scheduler = s.scheduler))))
  ∧ (∀ (e : ClaimEntry) (w : Waiter),
      (e.recordsDeferrals = true ↔ e.state = .wanted ∧ e.announced = true ∨ e.state = .held)
      ∧ ((∃ v ∈ e.waiters, v.station = w.station ∧ v.seq = w.seq) → e.recordWaiter w = e)
      ∧ ((∀ v ∈ e.waiters, ¬ (v.station = w.station ∧ v.seq = w.seq)) → Ascending Waiter.key e.waiters →
        e.recordWaiter w = { e with waiters := (e.recordWaiter w).waiters }
        ∧ Ascending Waiter.key (e.recordWaiter w).waiters
        ∧ ∀ v, v ∈ (e.recordWaiter w).waiters ↔ v = w ∨ v ∈ e.waiters ∧ v.station ≠ w.station))
  ∧ (∀ v w : Waiter, v.key < w.key ↔ v.stamp < w.stamp ∨ v.stamp = w.stamp ∧ v.station < w.station)

/-- HOLD: after the incarnation sweep of its source, the view gains the source as a holder of the resource with source HOLD
and the frame's sequence, whether it is a member or not, with the view's notices; no other block but the roster's silence
timer takes it. The timer restarts, so that a loss that was due does not happen (R53, R60). (That the roster notes such a HOLD
until the next tick, for the row of R113, and that a second HOLD before that tick keeps the note of the first, is the model's
choice: log 29.)
How a holder is added (R99 to R101, at a third holder the own or else the first is kept) and dropped (R102), who is one
holder (R98), and which CONFLICT and VIEW notices an event gives, resource by resource (R109 to R111). -/
def Obligations.HoldReceivedReachesTheView : Prop :=
  (∀ (h : Header) (r : Resource) (q : ClaimSeq) (s : State), s.TakesFrom h → s.NoPurge h → s.view.length = 256 →
    ∃ t, exec (.receiveHold h r q) s = .next t ∧ s.Took t h ∧ t.roster = restartedByHold h.source r s.roster
      ∧ t.claims.table = s.claims.table ∧ t.answers = s.answers ∧ t.scheduler = s.scheduler
      ∧ (∀ r', r' ≠ r →
        viewAt t.view r' = (viewAt s.view r').drop (Holder.isStale h.source h.incarnation))
      ∧ viewAt t.view r =
        (((viewAt s.view r).drop (Holder.isStale h.source h.incarnation)).add
          (.peer h.source h.incarnation (.hold q))).1
      ∧ t.notices = (viewNotices
          (if (((viewAt s.view r).drop (Holder.isStale h.source h.incarnation)).add
            (.peer h.source h.incarnation (.hold q))).2 then [r] else [])
          s.viewWatch 0 s.view t.view).foldl NoticeQueue.give s.countValid.notices)
  ∧ (∀ h : Holder, ViewEntry.unknown.add h = (.held h, false) ∧ ViewEntry.free.add h = (.held h, false)
      ∧ (∀ g, g.same h = true → (ViewEntry.held g).add h = (.held (g.updatedBy h), false))
      ∧ (∀ g, g.same h = false → (ViewEntry.held g).add h = (.contested g h, true))
      ∧ (∀ a b, a.same h = true → (ViewEntry.contested a b).add h = (.contested (a.updatedBy h) b, false))
      ∧ (∀ a b, a.same h = false → b.same h = true →
        (ViewEntry.contested a b).add h = (.contested a (b.updatedBy h), false))
      ∧ (∀ a b, a.same h = false → b.same h = false →
        (ViewEntry.contested a b).add h = (.contested (if b.isOwn then b else a) h, true)))
  ∧ (∀ (x y : Station) (i j : Incarnation) (q q' : ClaimSeq) (src src' : PeerSource),
      Holder.same (.own q) (.own q') = true ∧ Holder.same (.own q) (.peer x i src) = false
      ∧ Holder.same (.peer x i src) (.own q) = false ∧ (Holder.same (.peer x i src) (.peer y j src') = true ↔ x = y)
      ∧ (∀ old : Holder, old.updatedBy (.peer x i (.hold q)) = .peer x i (.hold q)
        ∧ old.updatedBy (.peer x i .presence) = old)
      ∧ (Holder.isPeer x (.peer y j src) = true ↔ y = x) ∧ Holder.isPeer x (.own q) = false
      ∧ (Holder.isStale x i (.peer y j src) = true ↔ y = x ∧ j ≠ i) ∧ Holder.isStale x i (.own q) = false
      ∧ Holder.isOwn (.own q) = true ∧ Holder.isOwn (.peer x i src) = false)
  ∧ (∀ (p : Holder → Bool) (a b : Holder),
      ViewEntry.unknown.drop p = .unknown ∧ ViewEntry.free.drop p = .free
      ∧ (ViewEntry.held a).drop p = (if p a = true then .free else .held a)
      ∧ (p a = false → p b = false → (ViewEntry.contested a b).drop p = .contested a b)
      ∧ (p a = true → p b = false → (ViewEntry.contested a b).drop p = .held b)
      ∧ (p a = false → p b = true → (ViewEntry.contested a b).drop p = .held a)
      ∧ (p a = true → p b = true → (ViewEntry.contested a b).drop p = .free))
  ∧ (∀ (conflicts : List Resource) (watch : Option Groups) (before after : List ViewEntry),
      before.length = 256 → after.length = 256 →
      viewNotices conflicts watch 0 before after = (List.finRange 256).flatMap fun r =>
        let b := viewAt before r
        let a := viewAt after r
        (match a with
          | .contested first latest => if r ∈ conflicts then [NoticeBody.conflict r first latest] else []
          | .unknown | .free | .held _ => [])
        ++ (match watch with
          | none => []
          | some g =>
            if inGroups g r = true ∧ (b.shownState ≠ a.shownState
                ∨ b.first.map Holder.identity ≠ a.first.map Holder.identity
                ∨ b.latest.map Holder.identity ≠ a.latest.map Holder.identity) then
              [NoticeBody.view r a.shownState (a.first.map Holder.identity) (a.latest.map Holder.identity)]
            else []))
  ∧ (∀ s : State,
      s.viewWatch = if s.session.state = .member ∨ s.session.state = .observing then some s.config.watch else none)

/-- FREE: after the incarnation sweep the view drops the source's hold on the resource, before any own hold is added; an
announced WANTED entry that awaits the source counts it as its answer, whatever its sequence and reason; from a member it
also removes the source's waiters item and its GRANTs for the resource. -/
def Obligations.FreeReceivedAnswersAndReleases : Prop :=
  ∀ (h : Header) (r : Resource) (q : ClaimSeq) (reason : CloseReason) (s : State), s.TakesFrom h → s.NoPurge h →
    s.view.length = 256 →
    ∃ t, exec (.receiveFree h r q reason) s = .next t ∧ s.Took t h ∧ t.roster = restarted h.source s.roster
      ∧ let dropped := fun r' => (viewAt s.view r').drop (Holder.isStale h.source h.incarnation)
        let member := s.isMember h.source h.incarnation
        let queue := if member then s.answers.filter (fun g => !(g.target == h.source && g.resource == r)) else s.answers
        let clean := fun e : ClaimEntry =>
          if member then { e with waiters := e.waiters.filter fun w => w.station != h.source } else e
        (∀ r', r' ≠ r → viewAt t.view r' = dropped r' ∧ t.entry? r' = s.entry? r')
        ∧ (s.entry? r = none →
          t.entry? r = none ∧ t.answers = queue ∧ t.scheduler = s.scheduler
          ∧ t.notices = (viewNotices [] s.viewWatch 0 s.view t.view).foldl NoticeQueue.give s.countValid.notices
          ∧ viewAt t.view r = (dropped r).drop (Holder.isPeer h.source))
        ∧ ∀ e, s.entry? r = some e →
          (¬ e.AwaitsAnswer h.source ∨ e.awaiting.filter (· != h.source) ≠ [] →
            t.answers = queue ∧ t.scheduler = s.scheduler
            ∧ t.notices = (viewNotices [] s.viewWatch 0 s.view t.view).foldl NoticeQueue.give s.countValid.notices
            ∧ viewAt t.view r = (dropped r).drop (Holder.isPeer h.source)
            ∧ (¬ e.AwaitsAnswer h.source → t.entry? r = some (clean e))
            ∧ (e.AwaitsAnswer h.source → t.entry? r = some (clean (e.countAnswer h.source))))
          ∧ (e.AwaitsAnswer h.source → e.awaiting.filter (· != h.source) = [] →
            t.entry? r = some (clean (e.countAnswer h.source))
            ∧ t.answers = s.answers.filter (fun g => g.resource != r)
            ∧ t.scheduler = { s.scheduler with order := s.scheduler.order.filter (· != .entry r) ++ [.entry r] }
            ∧ viewAt t.view r = (((dropped r).drop (Holder.isPeer h.source)).add (.own e.seq)).1
            ∧ t.notices = (NoticeBody.granted r :: viewNotices
                (if (((dropped r).drop (Holder.isPeer h.source)).add (.own e.seq)).2 then [r] else [])
                s.viewWatch 0 s.view t.view).foldl NoticeQueue.give s.countValid.notices)

/-- A purge takes the member out of the roster, every awaiting set and waiters list, the answer queue and the view. Each
entry whose last answer it was becomes HELD with its HOLD placed, and every other entry keeps its state. The HOLDs take
their places, and the GRANTED notices come, in ascending order of resource. A GRANT to the member, or for a resource that
became HELD, that is on the line runs out; nothing else of the line changes.
What an event's end gives to the queue: PEER, the GRANTED notices, the view's notices. -/
def Obligations.PurgeReachesEveryBlock : Prop :=
  (∀ (x : Station) (s : State), s.ClaimsLawful → s.view.length = 256 →
    let k := s.begin.purge x
    let t := k.state
    t.roster = s.roster.filter (fun m => m.station != x)
    ∧ (∀ g, g ∈ t.answers ↔ g ∈ s.answers ∧ g.target ≠ x
        ∧ ∀ e, s.entry? g.resource = some e → ¬ (e.AwaitsAnswer x ∧ e.awaiting.filter (· != x) = []))
    ∧ (∀ r, s.entry? r = none → t.entry? r = none ∧ viewAt t.view r = (viewAt s.view r).drop (Holder.isPeer x))
    ∧ (∀ r e, s.entry? r = some e →
      let e' := { e with waiters := e.waiters.filter fun w => w.station != x }
      (e.AwaitsAnswer x → t.entry? r = some (e'.countAnswer x))
      ∧ (¬ e.AwaitsAnswer x → t.entry? r = some { e' with awaiting := e.awaiting.filter (· != x) })
      ∧ (e.AwaitsAnswer x ∧ e.awaiting.filter (· != x) = [] →
        viewAt t.view r = (((viewAt s.view r).drop (Holder.isPeer x)).add (.own e.seq)).1)
      ∧ (¬ (e.AwaitsAnswer x ∧ e.awaiting.filter (· != x) = []) →
        viewAt t.view r = (viewAt s.view r).drop (Holder.isPeer x)))
    ∧ t.claims.clock = s.claims.clock ∧ t.claims.seq = s.claims.seq ∧ t.session = s.session
    ∧ t.standing = s.standing ∧ t.link = s.link ∧ t.notices = s.notices ∧ t.pending = s.pending
    ∧ t.claims.table = s.claims.table.map (ClaimEntry.purged x)
    ∧ t.answers = s.purgedAnswers x
    ∧ t.line = { s.line with onLine := s.line.onLine.map fun f =>
        match f.frame.body with
        | .grant y r _ => if y = x ∨ r ∈ s.completedBy x then { f with live := false } else f
        | .presence _ | .claim _ _ _ | .hold _ _ | .free _ _ _ | .withdraw => f }
    ∧ t.view = s.purgedView x
    ∧ t.scheduler = { s.scheduler with order := placedLast s.scheduler.order (s.completedBy x) }
    ∧ k.granted = s.completedBy x
    ∧ Ascending Fin.val k.granted
    ∧ (∀ r, r ∈ k.granted ↔ ∃ e, s.entry? r = some e ∧ e.AwaitsAnswer x ∧ e.awaiting.filter (· != x) = [])
    ∧ (∀ r, r ∈ k.conflicts ↔ r ∈ s.purgeConflicts x))
  ∧ (∀ (k : Take) (before : State) (peer : Option NoticeBody),
      k.finish before peer = { k.state with
        notices := (peer.toList ++ k.granted.map NoticeBody.granted
          ++ viewNotices k.conflicts before.viewWatch 0 before.view k.state.view).foldl NoticeQueue.give k.state.notices })

/-- WITHDRAW: a member of the frame's incarnation is purged with PEER(left), one of another incarnation with PEER(lost);
from a non-member nothing changes but what every frame changes. -/
def Obligations.WithdrawReceivedPurges : Prop :=
  ∀ (h : Header) (s : State), s.TakesFrom h →
    let u := s.validFrame h
    (s.member? h.source = none → exec (.receiveWithdraw h) s = .next u ∧ s.Took u h
      ∧ u.claims.table = s.claims.table ∧ u.roster = s.roster ∧ u.answers = s.answers ∧ u.view = s.view
      ∧ u.scheduler = s.scheduler)
    ∧ ∀ m, s.member? h.source = some m →
      exec (.receiveWithdraw h) s = .next ((u.begin.purge h.source).finish u
        (some (.peer h.source (if m.incarnation = h.incarnation then .left else .lost) m.incarnation)))

/-- A CLAIM, GRANT, HOLD, FREE or WITHDRAW of another incarnation purges the member and is then taken as from a non-member:
the source is no member, the answer queue holds no GRANT for it, no entry awaits it or holds it back, a CLAIM is not
answered, a GRANT or FREE is no answer, a HOLD is added to the view as the purge leaves it, and the rest leave that view as
it is. The notices are PEER(lost) with the incarnation that the roster held, the GRANTED notices of the purge, and the
view's. -/
def Obligations.OtherIncarnationIsPurgedFirst : Prop :=
  ∀ (c : Instr) (f : Frame) (s : State), frameOf c = some f → frameValid f = true → s.TakesFrom f.header →
    (∀ p, f.body ≠ .presence p) → ∀ m, s.member? f.header.source = some m → m.incarnation ≠ f.header.incarnation →
    ∃ t, exec c s = .next t
      ∧ t.roster = s.roster.filter (fun m => m.station != f.header.source)
      ∧ (∀ g ∈ t.answers, g.target ≠ f.header.source)
      ∧ (∀ e ∈ t.claims.table, f.header.source ∉ e.awaiting ∧ ∀ w ∈ e.waiters, w.station ≠ f.header.source)
      ∧ s.Took t f.header
      ∧ (s.ClaimsLawful → s.view.length = 256 →
        let x := f.header.source
        let notices := fun conflicts =>
          (NoticeBody.peer x .lost m.incarnation :: ((s.completedBy x).map NoticeBody.granted
            ++ viewNotices conflicts s.viewWatch 0 s.view t.view)).foldl NoticeQueue.give s.countValid.notices
        t.claims.table = s.claims.table.map (ClaimEntry.purged x)
        ∧ t.answers = s.purgedAnswers x
        ∧ t.scheduler = { s.scheduler with order := placedLast s.scheduler.order (s.completedBy x) }
        ∧ (∀ r q, f.body = .hold r q →
          let added := (s.purgedEntry x r).add (.peer x f.header.incarnation (.hold q))
          t.view = (s.purgedView x).set r.val added.1
          ∧ t.notices = notices (s.purgeConflicts x ++ if added.2 = true then [r] else []))
        ∧ ((∀ r q, f.body ≠ .hold r q) → t.view = s.purgedView x ∧ t.notices = notices (s.purgeConflicts x)))

/-- PRESENCE, in every state that takes it further than the clock, where it is no lapse: a non-member is admitted with the
frame's values, with PEER(joined), and joins the awaiting set of every WANTED entry in its groups, which re-sends when it is
announced (within the event: log 9); a member of the same incarnation and interest set is refreshed, with no PEER notice; any
other member is purged and admitted again, with PEER(renewed): what the purge completes is HELD and is not awaited again. The
heard-us flag is computed against the incarnation as LISTENING leaves it. -/
def Obligations.PresenceAdmitsRefreshesOrRenews : Prop :=
  ∀ (h : Header) (p : Presence) (s : State), p.wellFormed = true → s.TakesFrom h →
    (s.session.state = .member → (s.session.number, s.session.incarnation) ∈ p.heard) →
    ∃ t, exec (.receivePresence h p) s = .next t
      ∧ State.Took { s with session := t.session } t h
      ∧ t.session = { s.session with heardSet := t.session.heardSet, incarnation := t.session.incarnation }
      ∧ (s.session.state ≠ .listening → t.session = s.session)
      ∧ let us := decide ((s.session.number, t.session.incarnation) ∈ p.heard)
        let admitted : Member :=
          { station := h.source, incarnation := h.incarnation, interest := p.interest, standing := p.standing,
            heardUs := us, held := p.held, silence := 0, lossDue := false, lossMet := none }
        let peer := fun event rest =>
          t.notices = (NoticeBody.peer h.source event h.incarnation :: rest).foldl NoticeQueue.give s.countValid.notices
        let noPeer := fun rest : List NoticeBody => ∀ x event i, NoticeBody.peer x event i ∉ rest
        (s.member? h.source = none →
          t.roster = insertAsc (fun m => m.station.val) admitted s.roster
          ∧ t.answers = s.answers
          ∧ (∃ rest, noPeer rest ∧ peer .joined rest)
          ∧ (s.ClaimsLawful →
            t.claims.table = s.claims.table.map (ClaimEntry.joinedBy h.source p.interest)
            ∧ t.scheduler = { s.scheduler with
                order := placedLast s.scheduler.order (resendsFor p.interest s.claims.table) }
            ∧ ∀ r e, s.entry? r = some e →
              ((e.state ≠ .wanted ∨ inGroups p.interest r = false) → t.entry? r = some e)
              ∧ (e.state = .wanted → inGroups p.interest r = true → e.announced = false →
                t.entry? r = some { e with awaiting := insertStation h.source e.awaiting })
              ∧ (e.state = .wanted → inGroups p.interest r = true → e.announced = true →
                t.entry? r = some { e with
                  awaiting := insertStation h.source e.awaiting, resendDue := none
                  slot := { e.slot with unsent := some (e.slot.unsent.getD .resend) } })))
        ∧ (∀ m, s.member? h.source = some m → m.incarnation = h.incarnation → m.interest = p.interest →
          t.roster = s.roster.map (fun m => if m.station = h.source then
              { m with silence := 0, lossDue := false, lossMet := none, standing := p.standing, held := p.held,
                       heardUs := us } else m)
          ∧ t.claims.table = s.claims.table ∧ t.answers = s.answers ∧ t.scheduler = s.scheduler
          ∧ ∃ rest, noPeer rest ∧ t.notices = rest.foldl NoticeQueue.give s.countValid.notices)
        ∧ (∀ m, s.member? h.source = some m → ¬ (m.incarnation = h.incarnation ∧ m.interest = p.interest) →
          t.roster = insertAsc (fun m => m.station.val) admitted (s.roster.filter fun m => m.station != h.source)
          ∧ (∀ g ∈ t.answers, g.target ≠ h.source)
          ∧ (∀ e ∈ t.claims.table, ∀ w ∈ e.waiters, w.station ≠ h.source)
          ∧ (∃ rest, noPeer rest ∧ peer .renewed rest)
          ∧ (s.ClaimsLawful →
            let purged := s.claims.table.map (ClaimEntry.purged h.source)
            t.claims.table = purged.map (ClaimEntry.joinedBy h.source p.interest)
            ∧ t.answers = s.purgedAnswers h.source
            ∧ t.scheduler = { s.scheduler with
                order := placedLast (placedLast s.scheduler.order (s.completedBy h.source))
                  (resendsFor p.interest purged) }
            ∧ ∀ r e, s.entry? r = some e → e.LastAnswer h.source →
              t.entry? r = some ({ e with waiters := e.waiters.filter fun w => w.station != h.source }.countAnswer
                h.source)))

/-- What a PRESENCE says it holds reaches the view whatever its roster event, where it is no lapse: afterwards its source is
recorded, with the frame's incarnation, for every resource of its held list, and for no other resource. The other holders are
as the purge half of a renewal, or the state before, leaves them. The notices are the PEER notice, the GRANTED notices of a
renewal's purge half, and the view's CONFLICT and VIEW notices over the whole event. -/
def Obligations.PresenceStatesItsHolds : Prop :=
  ∀ (h : Header) (p : Presence) (s : State), p.wellFormed = true → s.TakesFrom h →
    (s.session.state = .member → (s.session.number, s.session.incarnation) ∈ p.heard) →
    s.ClaimsLawful → s.view.length = 256 →
    ∃ t, exec (.receivePresence h p) s = .next t
      ∧ t.view = s.presenceView h p
      ∧ t.notices = (s.presenceNotices h p).foldl NoticeQueue.give s.countValid.notices
      ∧ let base := fun r => if s.renews h p = true then s.purgedEntry h.source r else viewAt s.view r
        let swept := fun r => (base r).drop (Holder.isStale h.source h.incarnation)
        (∀ r, r ∈ p.held →
          viewAt t.view r = ((swept r).add (.peer h.source h.incarnation .presence)).1
          ∧ ((viewAt t.view r).first = some (.peer h.source h.incarnation .presence)
            ∨ (viewAt t.view r).latest = some (.peer h.source h.incarnation .presence)
            ∨ ∃ q, (viewAt t.view r).first = some (.peer h.source h.incarnation (.hold q))
              ∨ (viewAt t.view r).latest = some (.peer h.source h.incarnation (.hold q))))
        ∧ (∀ r, r ∉ p.held → viewAt t.view r = (swept r).drop (Holder.isPeer h.source))

/-- In MEMBER a PRESENCE whose heard list lacks the own station, or lists it with another incarnation, is a lapse: after all
of its own effects and notices the session is cleared, with REVOKED or CLOSED for each entry and SESSION(listening, lapse)
naming the station that omitted the own one, and the station is in LISTENING with a stepped incarnation and a join window.
In LISTENING each incarnation that a PRESENCE lists for the own number joins the heard set, and the candidate steps by 1,
modulo 256, to the first value that is not in the set; the heard-us flag is computed against the candidate that results, so it is no, and nothing lapses. When
the set then holds all 256 values the candidate is stepped once. A list without the own number leaves the candidate. (A
repeated report: log 25.) -/
def Obligations.HeardListsLapseOrStepTheCandidate : Prop :=
  (∀ (h : Header) (p : Presence) (s : State), p.wellFormed = true → s.TakesFrom h → s.session.state = .member →
      (s.session.number, s.session.incarnation) ∉ p.heard →
      ∃ t, exec (.receivePresence h p) s = .next t
        ∧ t.session = { s.session with
            state := .listening, incarnation := s.session.incarnation + 1, heardSet := []
            joinWindow := some (2 * s.config.periodMs), ownPresence := none }
        ∧ t.claims = { s.claims with
            clock := if s.claims.clock < h.clock then h.clock else s.claims.clock, table := [] }
        ∧ t.answers = [] ∧ t.roster = [] ∧ t.view = List.replicate 256 .unknown
        ∧ t.scheduler = { presence := .empty, withdraw := .empty, order := [], alternation := 0, presenceDue := none }
        ∧ t.line.roundType = .fixed ∧ t.link = s.link ∧ t.pending = s.pending
        ∧ (s.ClaimsLawful → s.view.length = 256 →
          let own := (s.presenceNotices h p).foldl NoticeQueue.give s.countValid.notices
          t.notices = (((s.presenceTable h p).map (clearNotice .lapse)).foldl NoticeQueue.give own).give
            (.session .listening .lapse (some h.source))))
  ∧ (∀ (h : Header) (p : Presence) (i : Incarnation) (s : State), p.wellFormed = true → s.TakesFrom h →
      s.session.state = .listening → (s.session.number, i) ∈ p.heard →
      (insertAsc Fin.val i s.session.heardSet).length < 256 →
      ∃ t, exec (.receivePresence h p) s = .next t
        ∧ t.session.heardSet = insertAsc Fin.val i s.session.heardSet
        ∧ t.session.incarnation ∉ t.session.heardSet
        ∧ (∃ k : Nat, k < 256 ∧ t.session.incarnation = s.session.incarnation + Fin.ofNat 256 k
          ∧ ∀ j : Nat, j < k → s.session.incarnation + Fin.ofNat 256 j ∈ t.session.heardSet)
        ∧ (s.session.incarnation ∉ t.session.heardSet → t.session.incarnation = s.session.incarnation)
        ∧ t.session.state = .listening ∧ t.session.joinWindow = s.session.joinWindow
        ∧ (∀ m ∈ t.roster, m.station = h.source → m.heardUs = false))
  ∧ (∀ (h : Header) (p : Presence) (i : Incarnation) (s : State), p.wellFormed = true → s.TakesFrom h →
      s.session.state = .listening → (s.session.number, i) ∈ p.heard →
      (insertAsc Fin.val i s.session.heardSet).length = 256 →
      ∃ t, exec (.receivePresence h p) s = .next t
        ∧ t.session = { s.session with
            heardSet := insertAsc Fin.val i s.session.heardSet, incarnation := s.session.incarnation + 1 }
        ∧ (∀ m ∈ t.roster, m.station = h.source → m.heardUs = decide (i = s.session.incarnation + 1)))
  ∧ (∀ (h : Header) (p : Presence) (s : State), p.wellFormed = true → s.TakesFrom h → s.session.state = .listening →
      (∀ i, (s.session.number, i) ∉ p.heard) →
      ∃ t, exec (.receivePresence h p) s = .next t ∧ t.session = s.session)

/-! ## The line -/

/-- Carrier ends the gap and the round and restarts the recovery quiet count in SILENT; the quiet gap opens a round at slot
0; activity that was not counted ends in a fixed round. None of them reaches any other item. (Carrier seen in the present
tick as state: log 15; activity tracked at an inactive receiver: log 14; the activity in progress at START: log 32.)
A frame or a receive fault at an inactive receiver, while an own frame is on the line, or at the end of activity that was not
counted is not taken in: the clock, the counts and every block stay as they were, and only the phase of the line moves on. -/
def Obligations.CarrierGapAndUncountedActivity : Prop :=
  (∀ s : State,
    (s.line.onLine = none →
      exec .carrierDetected s = .next { s with
        standing := if s.session.state = .silent then { s.standing with recoveryQuiet := 0 } else s.standing
        line := { s.line with
          phase := match s.line.phase with
            | .activity counted => .activity counted
            | .quiet | .round _ => .activity s.session.state.receiverActive
          carrierInTick := true } })
    ∧ (s.session.state.receiverActive = true → s.line.onLine = none → s.line.phase = .quiet →
      exec .quietGapElapsed s = .next { s with line := { s.line with phase := .round 0 } })
    ∧ (s.line.phase = .activity false → s.session.state.receiverActive = true →
      exec .endOfUncountedActivity s = .next { s with
        line := { s.line with phase := .quiet, roundType := .fixed, carrierInTick := true } }))
  ∧ (∀ (c : Instr) (s : State), ((∃ f, frameOf c = some f) ∨ (∃ a, c = .receiveFault a)) →
      (s.session.state.receiverActive = false →
        exec c s = .next { s with line := { s.line with
          phase := match s.line.phase with
            | .activity _ => .quiet
            | .quiet => .quiet
            | .round k => .round k } })
      ∧ (s.session.state.receiverActive = true → s.line.onLine ≠ none → exec c s = .next s)
      ∧ (s.session.state.receiverActive = true → s.line.onLine = none → s.line.phase = .activity false →
        exec c s = .next { s with
          line := { s.line with phase := .quiet, roundType := .fixed, carrierInTick := true } }))

/-- The own slot: (s − b − 1) modulo 32 in a rotating round with base b, the own number in a fixed one; the last source has
slot 31, and two stations never share a slot of one round. -/
def Obligations.OwnSlotNumber : Prop :=
  ∀ (t : RoundType) (b x y : Station),
    (ownSlotOf .rotating b x).val = (x.val + 31 - b.val) % 32
    ∧ ownSlotOf .fixed b x = x
    ∧ ownSlotOf .rotating b b = 31
    ∧ (ownSlotOf t b x = ownSlotOf t b y → x = y)

/-- The choice of a frame: the head of the answer queue while the alternation count is below 3 or no own frame waits, the
first own frame otherwise, and nothing when nothing waits; the count afterwards, which nothing chosen and a withdrawal
from the answer queue leave as it is. -/
def Obligations.ChoiceFollowsTheAlternation : Prop :=
  ∀ s : State,
    (s.answers = [] → s.firstOwn = none → s.choice = none)
    ∧ (∀ n, s.answers = [] → s.firstOwn = some n → s.choice = some (.own n))
    ∧ (∀ g rest, s.answers = g :: rest → s.firstOwn = none → s.choice = some (.answer g))
    ∧ (∀ g rest n, s.answers = g :: rest → s.firstOwn = some n →
      s.choice = if s.scheduler.alternation < 3 then some (.answer g) else some (.own n))
    ∧ (∀ g k, (s.send (.answer g) k).scheduler.alternation = min 3 (s.scheduler.alternation + 1))
    ∧ (∀ n k, (s.send (.own n) k).scheduler.alternation = 0)
    ∧ (∀ k, s.choice = none → s.line.phase = .round k → s.line.onLine = none →
      ∃ t, exec .ownSlot s = .next t ∧ t.line.onLine = none ∧ t.scheduler = s.scheduler)
    ∧ (∀ p, (s.withdrawGrants p).scheduler = s.scheduler)

/-- The first own frame: eligible, of the lowest class that any waiting request has, and within its class the oldest by the
placement order.
The class of each request, and when it is eligible: the first send of a QUEUED entry is held back while the standing is
IMPAIRED and while the clock is exhausted, and every other unsent request is eligible. -/
def Obligations.FirstOwnFrameByClassAndAge : Prop :=
  (∀ s : State,
    (s.firstOwn = none ↔ ∀ n ∈ s.scheduler.order, s.slotClass n = none)
    ∧ ∀ n, s.firstOwn = some n → ∃ c before after,
      s.slotClass n = some c ∧ s.scheduler.order = before ++ n :: after
      ∧ (∀ m ∈ before, s.slotClass m ≠ some c)
      ∧ (∀ m ∈ s.scheduler.order, ∀ d, s.slotClass m = some d → c ≤ d))
  ∧ (∀ s : State,
      s.slotClass .withdraw = (if s.scheduler.withdraw = .unsent then some 1 else none)
      ∧ s.slotClass .presence = (if s.scheduler.presence = .unsent then some 2 else none)
      ∧ (∀ r, s.entry? r = none → s.slotClass (.entry r) = none)
      ∧ (∀ r e, s.entry? r = some e →
        (e.slot.unsent = none → s.slotClass (.entry r) = none)
        ∧ (∀ reason, e.slot.unsent = some (.free reason) → s.slotClass (.entry r) = some 3)
        ∧ (e.slot.unsent = some .hold → s.slotClass (.entry r) = some 4)
        ∧ (e.slot.unsent = some .firstClaim →
          s.slotClass (.entry r) =
            if e.state = .queued ∧ (s.standing.standing = .impaired ∨ s.claims.clock = 0xFFFFFFFFFFFF) then none
            else some 5)
        ∧ (e.slot.unsent = some .resend → s.slotClass (.entry r) = some 6)))

/-- The own slot of an open round: where the state may send and a frame is chosen, that frame goes on the line with the
header and the content of that moment, and its request is on the line; where nothing is chosen or the state does not send,
the slot passes. -/
def Obligations.OwnSlotSendsTheChoice : Prop :=
  ∀ (k : Slot) (s : State), s.line.phase = .round k → s.line.onLine = none →
    let slot := ownSlotOf s.line.roundType s.line.base s.session.number
    let header : Header := { source := s.session.number, incarnation := s.session.incarnation, clock := s.claims.clock }
    let sent := fun (kind : SentKind) (header : Header) (body : Body) =>
      { s.line with
        phase := .quiet
        carrierInTick := true
        onLine := some { kind := kind, frame := { header := header, body := body }, slot := slot, live := true } }
    (s.session.state.maySend = false ∨ s.choice = none →
      exec .ownSlot s = .next { s with line := { s.line with phase := .round slot } })
    ∧ (s.session.state.maySend = true →
      (∀ g, s.choice = some (.answer g) →
        exec .ownSlot s = .next { s with
          line := sent .grant header (.grant g.target g.resource g.seq)
          scheduler := { s.scheduler with alternation := min 3 (s.scheduler.alternation + 1) } })
      ∧ (s.choice = some (.own .withdraw) →
        exec .ownSlot s = .next { s with
          line := sent .withdraw header .withdraw
          scheduler := { s.scheduler with alternation := 0, withdraw := .onLine } })
      ∧ (s.choice = some (.own .presence) →
        exec .ownSlot s = .next { s with
          line := sent .presence header (.presence
            { interest := s.config.interest, standing := s.standing.standing.advertised
              heard := s.roster.map fun m => (m.station, m.incarnation)
              held := (s.claims.table.filter fun e => e.showsHeld).map fun e => e.resource })
          scheduler := { s.scheduler with alternation := 0, presence := .onLine } })
      ∧ (∀ r e, s.choice = some (.own (.entry r)) → s.entry? r = some e → e.state ≠ .queued →
        let table := s.claims.table.map fun x =>
          if x.resource = r then { x with slot := { onLine := x.slot.unsent, unsent := none } } else x
        let out := fun (kind : SentKind) (body : Body) =>
          exec .ownSlot s = .next { s with
            claims := { s.claims with table := table }
            line := sent kind header body
            scheduler := { s.scheduler with alternation := 0 } }
        (e.slot.unsent = some .firstClaim → out .firstClaim (.claim e.resource e.seq (e.stamp.getD 0)))
        ∧ (e.slot.unsent = some .resend → out .resend (.claim e.resource e.seq (e.stamp.getD 0)))
        ∧ (e.slot.unsent = some .hold → out .hold (.hold r e.seq))
        ∧ (∀ c, e.slot.unsent = some (.free c) → out .free (.free r e.seq c)))
      ∧ (∀ r e, s.choice = some (.own (.entry r)) → s.entry? r = some e → e.state = .queued →
        e.slot.unsent = some .firstClaim →
        let stamp := s.claims.clock + 1
        let awaiting := (s.roster.filter fun m => inGroups m.interest r).map fun m => m.station
        exec .ownSlot s = .next { s with
          claims := { s.claims with
            clock := stamp
            table := s.claims.table.map fun x =>
              if x.resource = r then
                { x with state := .wanted, stamp := some stamp, awaiting := awaiting, announced := false
                         resendDue := none, slot := { onLine := x.slot.unsent, unsent := none } }
              else x }
          line := sent .firstClaim { header with clock := stamp } (.claim e.resource e.seq stamp)
          scheduler := { s.scheduler with alternation := 0 } }))

/-! ## The ends of own frames -/

/-- A send fault that does not pass 240: the frame leaves the line, the next round is fixed, the count rises by 6, and the
request waits again where it stood, unless a newer one has replaced it or it no longer stands. A GRANT's item has stayed in
the answer queue. The fault is reported, or it is found in the cells read back: one of them differs from the cell driven.
Cells that are read back to the last one driven without a mismatch complete the frame, fewer of them decide nothing, and the
cells driven are the four parts of R134 in the levels of R190. (That the row carries cells, and that they can complete the
frame: log 18. Without an own frame nothing happens: log 4.) -/
def Obligations.SendFaultReturnsTheRequest : Prop :=
  (∀ (f : SentFrame) (readBack : ReadBack) (s : State), s.line.onLine = some f → f.Mismatch readBack →
    s.standing.standing ≠ .silenced → s.standing.sendFaults + 6 ≤ 240 →
    ∃ t, exec (.sendFault readBack) s = .next t
      ∧ t.line = { s.line with phase := .quiet, roundType := .fixed, carrierInTick := true, onLine := none }
      ∧ t.standing = { s.standing with
          sendFaults := s.standing.sendFaults + 6
          standing := deriveStanding s.standing.standing (s.standing.sendFaults + 6) s.standing.receiveFaults }
      ∧ t.notices = (if t.standing.standing = s.standing.standing then s.notices
          else s.notices.give (.standing t.standing.standing (s.standing.sendFaults + 6) s.standing.receiveFaults))
      ∧ t.session = s.session ∧ t.answers = s.answers ∧ t.roster = s.roster ∧ t.view = s.view ∧ t.link = s.link
      ∧ t.claims.clock = s.claims.clock ∧ t.claims.seq = s.claims.seq ∧ t.pending = s.pending
      ∧ (f.live = false → t.claims = s.claims ∧ t.scheduler = s.scheduler)
      ∧ (f.live = true →
        (∀ r, f.entryResource? = some r →
          t.claims.table = s.claims.table.map (fun e => if e.resource = r then
            { e with slot :=
              { onLine := none, unsent := if e.slot.unsent = none then e.slot.onLine else e.slot.unsent } } else e)
          ∧ t.scheduler = s.scheduler)
        ∧ (∀ p, f.frame.body = .presence p →
          t.claims = s.claims ∧ t.scheduler = { s.scheduler with presence := .unsent })
        ∧ (f.frame.body = .withdraw → t.claims = s.claims ∧ t.scheduler = { s.scheduler with withdraw := .unsent })
        ∧ (∀ x r q, f.frame.body = .grant x r q → t.claims = s.claims ∧ t.scheduler = s.scheduler)))
  ∧ (∀ (f : SentFrame) (cs : List LineCell) (s : State), s.line.onLine = some f →
      (f.cells <+: cs → exec (.sendFault (.cells cs)) s = exec (completionOf f.kind) s)
      ∧ (cs <+: f.cells → cs ≠ f.cells → exec (.sendFault (.cells cs)) s = .next s))
  ∧ (∀ (readBack : ReadBack) (s : State), s.line.onLine = none → exec (.sendFault readBack) s = .next s)
  ∧ (∀ f : SentFrame,
      f.cells = (List.range 16).map (fun i => bitCell (i % 2 == 0))
        ++ [{ first := .pAbove, second := .pAbove }, { first := .nAbove, second := .nAbove }]
        ++ ((frameBytes f.frame).flatMap byteBits).map bitCell
        ++ [{ first := .nAbove, second := .nAbove }, { first := .pAbove, second := .pAbove }])

/-- A send fault that would take the count past 240 silences: count 240, standing SILENCED and its notice first; from
MEMBER, ANNOUNCING and LISTENING the session is cleared and the station is SILENT, from LEAVING it is in SETUP, and in
SETUP it stays. (Cells read back with the row: log 18.) -/
def Obligations.SilencingEndsTheSession : Prop :=
  ∀ (f : SentFrame) (readBack : ReadBack) (s : State), s.line.onLine = some f → f.Mismatch readBack →
    s.standing.standing ≠ .silenced → 240 < s.standing.sendFaults + 6 →
    ∃ t, exec (.sendFault readBack) s = .next t
      ∧ t.standing = { sendFaults := 240, receiveFaults := s.standing.receiveFaults, standing := .silenced,
                       recoveryFrames := 0, recoveryQuiet := 0 }
      ∧ t.line.onLine = none ∧ t.line.roundType = .fixed ∧ t.line.base = s.line.base
      ∧ t.claims.clock = s.claims.clock ∧ t.claims.seq = s.claims.seq ∧ t.link = s.link ∧ t.pending = s.pending
      ∧ let first := s.notices.give (.standing .silenced 240 s.standing.receiveFaults)
        (s.session.state = .setup → t.session = s.session ∧ t.notices = first ∧ t.roster = s.roster)
        ∧ (s.session.state = .member ∨ s.session.state = .announcing ∨ s.session.state = .listening
            ∨ s.session.state = .leaving →
          let state := if s.session.state = .leaving then StationState.setup else .silent
          t.session = { s.session with state := state, heardSet := [], joinWindow := none, ownPresence := none }
          ∧ t.claims.table = [] ∧ t.answers = [] ∧ t.roster = [] ∧ t.view = List.replicate 256 .unknown
          ∧ t.scheduler = { presence := .empty, withdraw := .empty, order := [], alternation := 0, presenceDue := none }
          ∧ t.notices = ((s.claims.table.map (clearNotice .silenced)).foldl NoticeQueue.give first).give
              (.session state .silenced none))

/-- The completion of a CLAIM's first send announces its entry: HELD at once when nothing is awaited, re-send due after I
when something is, and announced alone in RELEASING. -/
def Obligations.ClaimCompletionAnnounces : Prop :=
  ∀ (f : SentFrame) (r : Resource) (q : ClaimSeq) (stamp : Clock) (e : ClaimEntry) (s : State),
    s.Sends .firstClaim (.claim r q stamp) f → s.entry? r = some e →
    ∃ t, exec .claimFrameComplete s = .next t ∧ s.Completed t ∧ t.session = s.session ∧ t.roster = s.roster
      ∧ (∀ r', r' ≠ r → t.entry? r' = s.entry? r')
      ∧ (e.state = .wanted → e.awaiting = [] →
        t.scheduler = { s.scheduler with order := s.scheduler.order.filter (· != .entry r) ++ [.entry r] }
        ∧ t.entry? r = some { e with
          announced := true, state := .held, wasHeld := true, patience := none, resendDue := none
          slot := { onLine := none, unsent := some .hold } }
        ∧ t.answers = s.answers.filter (fun g => g.resource != r)
        ∧ t.view = s.view.set r.val ((viewAt s.view r).add (.own e.seq)).1
        ∧ t.notices = (NoticeBody.granted r :: viewNotices (if ((viewAt s.view r).add (.own e.seq)).2 then [r] else [])
            s.viewWatch 0 s.view t.view).foldl NoticeQueue.give s.countCompleted.notices)
      ∧ (e.state = .wanted → e.awaiting ≠ [] →
        t.entry? r = some { e with
          announced := true, resendDue := some (.atTick (s.session.tick + s.config.reply))
          slot := { e.slot with onLine := none } }
        ∧ t.answers = s.answers ∧ t.view = s.view ∧ t.notices = s.countCompleted.notices
        ∧ t.scheduler = (if e.slot.unsent = none then
            { s.scheduler with order := s.scheduler.order.filter (· != .entry r) } else s.scheduler))
      ∧ (∀ c, e.state = .releasing c →
        t.entry? r = some { e with announced := true, slot := { e.slot with onLine := none } }
        ∧ t.answers = s.answers ∧ t.view = s.view ∧ t.notices = s.countCompleted.notices
        ∧ t.scheduler = (if e.slot.unsent = none then
            { s.scheduler with order := s.scheduler.order.filter (· != .entry r) } else s.scheduler))

/-- The completion of a re-send raises the re-send count up to 255 and sets the next re-send due while an answer is still
awaited; the completion of a HOLD only leaves its slot.
The completion of a GRANT takes its item out of the answer queue and touches no other block. -/
def Obligations.ResendHoldAndGrantCompletions : Prop :=
  (∀ (f : SentFrame) (r : Resource) (q : ClaimSeq) (e : ClaimEntry) (s : State), s.entry? r = some e →
      (∀ stamp, s.Sends .resend (.claim r q stamp) f →
        ∃ t, exec .claimResendComplete s = .next t ∧ s.Completed t
          ∧ t.entry? r = some { e with
              resendCount := min 255 (e.resendCount + 1), slot := { e.slot with onLine := none }
              resendDue := if e.state = .wanted ∧ e.awaiting ≠ [] then some (.atTick (s.session.tick + s.config.reply))
                           else e.resendDue }
          ∧ (∀ r', r' ≠ r → t.entry? r' = s.entry? r')
          ∧ t.session = s.session ∧ t.roster = s.roster ∧ t.answers = s.answers ∧ t.view = s.view
          ∧ t.notices = s.countCompleted.notices
          ∧ t.scheduler = (if e.slot.unsent = none then
              { s.scheduler with order := s.scheduler.order.filter (· != .entry r) } else s.scheduler))
      ∧ (s.Sends .hold (.hold r q) f →
        ∃ t, exec .holdComplete s = .next t ∧ s.Completed t
          ∧ t.entry? r = some { e with slot := { e.slot with onLine := none } }
          ∧ (∀ r', r' ≠ r → t.entry? r' = s.entry? r')
          ∧ t.session = s.session ∧ t.roster = s.roster ∧ t.answers = s.answers ∧ t.view = s.view
          ∧ t.notices = s.countCompleted.notices
          ∧ t.scheduler = (if e.slot.unsent = none then
              { s.scheduler with order := s.scheduler.order.filter (· != .entry r) } else s.scheduler)))
  ∧ (∀ (f : SentFrame) (x : Station) (r : Resource) (q : ClaimSeq) (s : State), s.Sends .grant (.grant x r q) f →
      ∃ t, exec .grantComplete s = .next t ∧ s.Completed t
        ∧ t.answers = s.answers.erase { target := x, resource := r, seq := q }
        ∧ t.claims = s.claims ∧ t.session = s.session ∧ t.roster = s.roster ∧ t.view = s.view
        ∧ t.scheduler = s.scheduler ∧ t.notices = s.countCompleted.notices)

/-- The completion of a FREE removes its entry and empties its slot, gives CLOSED with the close reason, and drops the own
hold from the view when the entry had been held. (CLOSED before the VIEW notice is the model's reading: log 11.) -/
def Obligations.FreeCompletionRemovesTheEntry : Prop :=
  ∀ (f : SentFrame) (r : Resource) (q : ClaimSeq) (c reason : CloseReason) (e : ClaimEntry) (s : State),
    s.Sends .free (.free r q c) f → s.entry? r = some e → e.state = .releasing reason →
    ∃ t, exec .freeComplete s = .next t ∧ s.Completed t
      ∧ t.claims.table = s.claims.table.filter (fun x => x.resource != r)
      ∧ t.scheduler = { s.scheduler with order := s.scheduler.order.filter (· != .entry r) }
      ∧ t.session = s.session ∧ t.roster = s.roster ∧ t.answers = s.answers
      ∧ (e.wasHeld = true → t.view = s.view.set r.val ((viewAt s.view r).drop Holder.isOwn)
        ∧ t.notices = (viewNotices [] s.viewWatch 0 s.view t.view).foldl NoticeQueue.give
            (s.countCompleted.notices.give (.closed r reason none)))
      ∧ (e.wasHeld = false → t.view = s.view ∧ t.notices = s.countCompleted.notices.give (.closed r reason none))

/-- The completion of an own PRESENCE empties its slot and starts the own-presence timer at 0 and the PRESENCE due timer
with P; the first one, in ANNOUNCING, moves the station to MEMBER.
The completion of the WITHDRAW in LEAVING ends the session: roster empty, view UNKNOWN, SETUP. -/
def Obligations.PresenceAndWithdrawCompletions : Prop :=
  (∀ (f : SentFrame) (p : Presence) (s : State), s.Sends .presence (.presence p) f →
      s.session.state = .announcing ∨ s.session.state = .member →
      ∃ t, exec .presenceComplete s = .next t ∧ s.Completed t
        ∧ t.session = { s.session with state := .member, ownPresence := some 0 }
        ∧ t.scheduler = { s.scheduler with
            presence := .empty, order := s.scheduler.order.filter (· != .presence)
            presenceDue := some s.config.periodMs }
        ∧ t.notices = (if s.session.state = .announcing then
            s.countCompleted.notices.give (.session .member .announced none) else s.countCompleted.notices)
        ∧ t.claims = s.claims ∧ t.answers = s.answers ∧ t.roster = s.roster ∧ t.view = s.view)
  ∧ (∀ (f : SentFrame) (s : State), s.Sends .withdraw .withdraw f → s.session.state = .leaving →
      ∃ t, exec .withdrawComplete s = .next t ∧ s.Completed t
        ∧ t.session = { s.session with state := .setup } ∧ t.roster = [] ∧ t.view = List.replicate 256 .unknown
        ∧ t.scheduler = { s.scheduler with withdraw := .empty, order := s.scheduler.order.filter (· != .withdraw) }
        ∧ t.notices = s.countCompleted.notices.give (.session .setup .withdrawn none)
        ∧ t.claims = s.claims ∧ t.answers = s.answers)

/-- A frame that ran out after its request was emptied ends at the Line Interface and the Standing Monitor alone: its
completion reaches no owning block.
What counting a completed own frame gives to the notice queue, before every other notice of the completion: a STANDING
notice with the counts when the count moves the standing, and nothing otherwise. -/
def Obligations.FrameThatRanOutReachesNoBlock : Prop :=
  (∀ (f : SentFrame) (s : State), s.line.onLine = some f → f.live = false →
    ∃ t, exec (completionOf f.kind) s = .next t ∧ s.Completed t
      ∧ t.claims = s.claims ∧ t.session = s.session ∧ t.answers = s.answers ∧ t.roster = s.roster ∧ t.view = s.view
      ∧ t.scheduler = s.scheduler ∧ t.notices = s.countCompleted.notices)
  ∧ (∀ s : State,
      (s.standing.standing = .silenced → s.countCompleted.notices = s.notices)
      ∧ (s.standing.standing ≠ .silenced →
        let n := s.standing.sendFaults - 1
        let st := deriveStanding s.standing.standing n s.standing.receiveFaults
        s.countCompleted.notices =
          if st = s.standing.standing then s.notices else s.notices.give (.standing st n s.standing.receiveFaults)))

/-! ## Expiries -/

/-- The end of the join window: the incarnation is fixed, the heard set emptied, every UNKNOWN view entry FREE; a contender
announces itself with its PRESENCE requested, an observer observes. -/
def Obligations.JoinWindowEndFollowsTheRole : Prop :=
  ∀ s : State, s.session.state = .listening → s.session.joinWindow = some 0 → s.scheduler.presence = .empty →
    let view := s.view.map fun v => if v = .unknown then .free else v
    (s.config.role = .contender →
      exec .joinWindowEnd s = .next { s with
        session := { s.session with state := .announcing, joinWindow := none, heardSet := [] }
        view := view
        scheduler := { s.scheduler with
          presence := .unsent, order := s.scheduler.order.filter (· != .presence) ++ [.presence] }
        notices := s.notices.give (.session .announcing .window none) })
    ∧ (s.config.role = .observer →
      exec .joinWindowEnd s = .next { s with
        session := { s.session with state := .observing, joinWindow := none, heardSet := [] }
        view := view
        notices := s.notices.give (.session .observing .window none) })

/-- The own presence lapse: at (L − 1) × P since the last completed own PRESENCE the session is cleared with REVOKED(lapse)
and CLOSED notices, and the station listens again with a stepped incarnation, its frame on the line running out. -/
def Obligations.OwnPresenceLapseEndsTheSession : Prop :=
  ∀ (n : Nat) (s : State), s.session.state = .member → s.session.ownPresence = some n →
    (s.config.lossLimit - 1) * (s.config.period * 10) ≤ n →
    exec .ownPresenceLapse s = .next { s with
      session := { s.session with
        state := .listening, incarnation := s.session.incarnation + 1, heardSet := []
        joinWindow := some (2 * (s.config.period * 10)), ownPresence := none }
      claims := { s.claims with table := [] }
      answers := []
      roster := []
      view := List.replicate 256 .unknown
      scheduler := { presence := .empty, withdraw := .empty, order := [], alternation := 0, presenceDue := none }
      line := { s.line with roundType := .fixed, onLine := s.line.onLine.map fun f => { f with live := false } }
      notices := ((s.claims.table.map (clearNotice .lapse)).foldl NoticeQueue.give s.notices).give
        (.session .listening .lapse none) }

/-- The loss of the lowest-numbered member whose loss is due: a purge with PEER(lost) and its incarnation first. (The loss
that a tick makes due waits for its own step: log 3.) With none due, a LOSS after a HOLD that came first at a due loss drops
that hold from the view entry, with the view's notices, and loses no member: the row of R113 beside R60 (the model's choice:
log 29). With neither nothing happens (log 4). -/
def Obligations.LossPurgesTheLowestMember : Prop :=
  ∀ (before after : List Member) (m : Member) (s : State),
    (s.roster = before ++ m :: after → m.lossDue = true → (∀ x ∈ before, x.lossDue = false) →
      exec .loss s = .next ((s.begin.purge m.station).finish s (some (.peer m.station .lost m.incarnation))))
    ∧ (∀ r, s.roster = before ++ m :: after → m.lossMet = some r → (∀ x ∈ s.roster, x.lossDue = false) →
      (∀ x ∈ before, x.lossMet = none) →
      let view := s.view.set r.val ((viewAt s.view r).drop (Holder.isPeer m.station))
      exec .loss s = .next { s with
        roster := s.roster.map fun x => if x.station = m.station then { x with lossMet := none } else x
        view := view
        notices := (viewNotices [] s.viewWatch 0 s.view view).foldl NoticeQueue.give s.notices })
    ∧ ((∀ x ∈ s.roster, x.lossDue = false ∧ x.lossMet = none) → exec .loss s = .next s)

/-- The patience expiry of the lowest resource whose deadline is reached: a QUEUED entry is removed with CLOSED(expired), a
WANTED one enters RELEASING with close reason expired.
The re-send of the lowest resource whose due time is reached: re-send due becomes absent, and a re-send request is
placed as the newest unless the slot already holds an unsent one, which serves. (Which expiries of one tick come first is
the sender's choice: log 3; a deadline that no longer counts is absent: log 10.) -/
def Obligations.PatienceExpiryAndResendDue : Prop :=
  (∀ (before after : List ClaimEntry) (e : ClaimEntry) (d : Nat) (s : State),
      s.claims.table = before ++ e :: after → e.patience = some d → d ≤ s.session.tick →
      (∀ x ∈ before, ∀ d', x.patience = some d' → s.session.tick < d') →
      (e.state = .queued →
        exec .patienceExpiry s = .next { s with
          claims := { s.claims with table := s.claims.table.filter fun x => x.resource != e.resource }
          scheduler := { s.scheduler with order := s.scheduler.order.filter (· != .entry e.resource) }
          line := s.line.cutLoose fun f => f.entryResource? == some e.resource
          notices := s.notices.give (.closed e.resource .expired none) })
      ∧ (e.state = .wanted → exec .patienceExpiry s = .next (s.enterReleasing e.resource .expired)))
  ∧ (∀ (before after : List ClaimEntry) (e : ClaimEntry) (d : Nat) (s : State), s.ClaimsLawful →
      s.claims.table = before ++ e :: after → e.state = .wanted → e.announced = true → e.resendDue = some (.atTick d) →
      d ≤ s.session.tick →
      (∀ x ∈ before, x.resendDue = none ∨ ∃ k, x.resendDue = some (.atTick k) ∧ s.session.tick < k) →
      exec .resendDue s = .next { s with
        claims := { s.claims with
          table := before ++
            { e with resendDue := none, slot := { e.slot with unsent := some (e.slot.unsent.getD .resend) } } :: after }
        scheduler := if e.slot.unsent = none then
            { s.scheduler with order := s.scheduler.order.filter (· != .entry e.resource) ++ [.entry e.resource] }
          else s.scheduler })

/-- The PRESENCE due timer's expiry places a PRESENCE request as the newest; the recovery quiet count at 4 × P in SILENT
completes recovery. -/
def Obligations.PresenceDueAndQuietRecovery : Prop :=
  ∀ s : State,
    (s.scheduler.presenceDue = some 0 → s.scheduler.presence = .empty →
      exec .presenceDue s = .next { s with scheduler := { s.scheduler with
        presenceDue := none, presence := .unsent
        order := s.scheduler.order.filter (· != .presence) ++ [.presence] } })
    ∧ (s.session.state = .silent → 4 * (s.config.period * 10) ≤ s.standing.recoveryQuiet →
      exec .recoveryQuietSpan s = .next { s with
        standing := { sendFaults := 0, receiveFaults := 0, standing := .sound, recoveryFrames := 0, recoveryQuiet := 0 }
        session := { s.session with
          state := .listening, incarnation := s.session.incarnation + 1, heardSet := []
          joinWindow := some (2 * (s.config.period * 10)), ownPresence := none }
        line := { s.line with roundType := .fixed }
        notices := (s.notices.give (.standing .sound 0 0)).give (.session .listening .recovered none) })

/-! ## Layouts -/

/-- The bytes of every valid line frame pass every check of R122 and R123 and spell that frame: no field is dropped. Bytes are
taken as a frame exactly when their content is valid, their kind and their length are that frame's, their last two bytes are
the CRC-16 of the rest, and the rest spells the frame; in a station byte of the body bits 7 to 5 are not read.
The cells of a frame, after any preamble and whatever follows them, give its bytes back; a span without its start or its end
delimiter gives none, and so does one with a code violation between them. A bit is a transition at the middle of its cell.
(That the bits before the start delimiter may have any values is the model's reading: log 31.) -/
def Obligations.FrameBytesSpellTheFrame : Prop :=
  (∀ f : Frame, frameValid f = true → frameOfBytes (frameBytes f) = some f)
  ∧ (∀ (bs : List Byte) (f : Frame),
      let n := bs.length - 2
      let spelled := payloadBytes f
      let stationByte := fun i : Nat => match f.body with
        | .presence p => ∃ j, j < p.heard.length ∧ i = 13 + 2 * j
        | .grant _ _ _ => i = 8
        | .claim _ _ _ | .hold _ _ | .free _ _ _ | .withdraw => False
      frameOfBytes bs = some f ↔
        frameValid f = true ∧ (bs.headD 0).toNat / 32 = bodyKind f.body ∧ bs.length = (frameBytes f).length
        ∧ bs.drop n = crc16Bytes (bs.take n)
        ∧ ∀ i, i < n → bs.getD i 0 = spelled.getD i 0
          ∨ stationByte i ∧ (bs.getD i 0).toNat % 32 = (spelled.getD i 0).toNat)
  ∧ (∀ f : Frame, framedBytes (frameCells f) = some (frameBytes f))
  ∧ (bitCell true = { first := .pAbove, second := .nAbove } ∧ bitCell false = { first := .nAbove, second := .pAbove })
  ∧ (∀ (before bits : List Bool) (bytes : List Byte) (rest : List LineCell) (c : LineCell),
      let start := before.map bitCell ++ [{ first := .pAbove, second := .pAbove }, { first := .nAbove, second := .nAbove }]
      framedBytes (start ++ (bytes.flatMap byteBits).map bitCell
        ++ [{ first := .nAbove, second := .nAbove }, { first := .pAbove, second := .pAbove }] ++ rest) = some bytes
      ∧ framedBytes (before.map bitCell) = none
      ∧ framedBytes (start ++ bits.map bitCell) = none
      ∧ ((∀ b, c ≠ bitCell b) →
        (c ≠ { first := .nAbove, second := .nAbove } ∨ rest.head? ≠ some { first := .pAbove, second := .pAbove }) →
        framedBytes (start ++ bits.map bitCell ++ c :: rest) = none))

/-- The link frame of every host command, with its check byte, is taken as that command: no argument is dropped. -/
def Obligations.LinkFrameSpellsTheCommand : Prop :=
  ∀ c : Instr, linkFrame c ≠ [] → linkVerdict (linkFrame c) (crc8 (linkFrame c)) = .taken c

/-! ## Laws that every step keeps -/

/-- Every step keeps the notice queue's laws: at most 32 notices, numbered consecutively, marks only with a full queue, ATTN
exactly with a non-empty one. -/
def Obligations.EveryStepKeepsTheNoticeQueueLaws : Prop :=
  ∀ s t : State, s.notices.Lawful → step s = .next t → t.notices.Lawful

/-- Every step keeps both fault counts in 0 to 240, and outside SILENCED the standing SOUND exactly when both are below
120. -/
def Obligations.EveryStepKeepsTheStandingLaws : Prop :=
  ∀ s t : State, s.standing.Lawful → step s = .next t → t.standing.Lawful

/-- Every step keeps an observer off the line, the SILENCED standing to SILENT and SETUP with no own frame on the line, and
the recovery progress to SILENT. -/
def Obligations.EveryStepKeepsTheSilenceLaws : Prop :=
  ∀ s t : State, s.SilenceLawful → step s = .next t → t.SilenceLawful

/-- Every step keeps the roster's laws: ascending, never the own number, empty in SETUP, SILENT and HALTED. -/
def Obligations.EveryStepKeepsTheRosterLaws : Prop :=
  ∀ s t : State, s.RosterLawful → step s = .next t → t.RosterLawful

/-- Every step keeps the claim table's laws: at most 16 entries, never two for a resource, none outside MEMBER, HELD with an
empty awaiting set and announced yes.
Every step keeps the own-frame slots' laws: the placement order names each slot once, and exactly the slots that hold a
request. -/
def Obligations.EveryStepKeepsTheClaimTableLaws : Prop :=
  (∀ s t : State, s.ClaimsLawful → step s = .next t → t.ClaimsLawful)
  ∧ (∀ s t : State, s.ClaimsLawful → s.SlotsLawful → step s = .next t → t.SlotsLawful)

/-- Every step keeps awaiting sets and waiters lists in order, once for each station, and to members.
Every step keeps the answer queue's laws: at most 16 GRANTs, no two alike, each for a member, none for a resource whose
own entry is HELD, none outside MEMBER. -/
def Obligations.EveryStepKeepsTheAnswerLaws : Prop :=
  (∀ s t : State, s.ClaimsLawful → s.RosterLawful → s.ListsLawful → step s = .next t → t.ListsLawful)
  ∧ (∀ s t : State, s.ClaimsLawful → s.AnswersLawful → step s = .next t → t.AnswersLawful)

/-- Every step keeps the view's laws: 256 entries, and the own station shown as a holder exactly where the claim table has
an entry in HELD, or in RELEASING with was-held yes. -/
def Obligations.EveryStepKeepsTheViewLaws : Prop :=
  ∀ s t : State, s.ClaimsLawful → s.ViewLawful → step s = .next t → t.ViewLawful

/-- The claim clock never decreases except at full reset. -/
def Obligations.TheClockNeverDecreases : Prop :=
  ∀ s t : State, (∀ rest, s.pending ≠ .fullReset :: rest) → step s = .next t → s.claims.clock ≤ t.claims.clock
end

