-- ==== Sys2Proof/Laws/Lists.lean ====
section
/-! SUPPORT. Facts about the ordered lists that the part's collections are: insertion keeps the order, adds one element at
most, and keeps every key that was there. -/

namespace Sys2Proof.Machine

variable {α : Type}

/-- What an insertion holds: the new element and old ones. -/
theorem mem_insertAsc (key : α → Nat) (x y : α) (l : List α) : y ∈ insertAsc key x l → y = x ∨ y ∈ l := by
  induction l with
  | nil => simp [insertAsc]
  | cons z zs ih =>
    unfold insertAsc
    split
    · simp
    · split
      · simp only [List.mem_cons]; tauto
      · simp only [List.mem_cons]; tauto

/-- The new element is in the list. -/
theorem self_mem_insertAsc (key : α → Nat) (x : α) (l : List α) : x ∈ insertAsc key x l := by
  induction l with
  | nil => simp [insertAsc]
  | cons z zs ih =>
    unfold insertAsc
    split
    · simp
    · split <;> simp [ih]

/-- An old element stays unless it has the new element's key. -/
theorem mem_insertAsc_of_mem (key : α → Nat) (x y : α) (l : List α) (h : y ∈ l) (hk : key y ≠ key x) :
    y ∈ insertAsc key x l := by
  induction l with
  | nil => simp at h
  | cons z zs ih =>
    unfold insertAsc
    split
    · exact List.mem_cons_of_mem _ h
    · split
      · rename_i he
        rcases List.mem_cons.mp h with h | h
        · subst h; exact absurd he.symm hk
        · exact List.mem_cons_of_mem _ h
      · rcases List.mem_cons.mp h with h | h
        · subst h; exact List.mem_cons_self
        · exact List.mem_cons_of_mem _ (ih h)

/-- Insertion keeps an ascending list ascending. -/
theorem Ascending.insertAsc {key : α → Nat} {l : List α} (h : Ascending key l) (x : α) :
    Ascending key (insertAsc key x l) := by
  induction l with
  | nil => simp [Sys2Proof.Machine.insertAsc]
  | cons z zs ih =>
    have hz := List.pairwise_cons.mp h
    unfold Sys2Proof.Machine.insertAsc
    split
    · rename_i hlt
      refine List.pairwise_cons.mpr ⟨?_, h⟩
      intro a ha
      rcases List.mem_cons.mp ha with ha | ha
      · subst ha; exact hlt
      · exact lt_trans hlt (hz.1 a ha)
    · split
      · rename_i he
        exact List.pairwise_cons.mpr ⟨fun a ha => he ▸ hz.1 a ha, hz.2⟩
      · rename_i h1 h2
        refine List.pairwise_cons.mpr ⟨?_, ih hz.2⟩
        intro a ha
        rcases mem_insertAsc key x a zs ha with ha | ha
        · subst ha; omega
        · exact hz.1 a ha

/-- Filtering keeps an ascending list ascending. -/
theorem Ascending.filter {key : α → Nat} {l : List α} (h : Ascending key l) (p : α → Bool) :
    Ascending key (l.filter p) := List.Pairwise.filter p h

/-- A map that keeps every key keeps an ascending list ascending. -/
theorem Ascending.map {key : α → Nat} {l : List α} (h : Ascending key l) (f : α → α) (hf : ∀ a, key (f a) = key a) :
    Ascending key (l.map f) := by
  refine List.pairwise_map.mpr (h.imp ?_)
  intro a b hab
  rw [hf, hf]; exact hab

/-- Insertion adds one element at most. -/
theorem length_insertAsc_le (key : α → Nat) (x : α) (l : List α) : (insertAsc key x l).length ≤ l.length + 1 := by
  induction l with
  | nil => simp [insertAsc]
  | cons z zs ih =>
    unfold insertAsc
    split
    · simp
    · split
      · simp
      · simpa using ih

/-- Where no element has the new key, insertion commutes with a map that keeps keys and leaves the rest alone. -/
theorem map_insertAsc (key : α → Nat) (x : α) (l : List α) (f : α → α) (hf : ∀ a, key (f a) = key a)
    (hl : ∀ a ∈ l, f a = a) : (insertAsc key x l).map f = insertAsc key (f x) l := by
  induction l with
  | nil => simp [insertAsc]
  | cons z zs ih =>
    have hz : f z = z := hl z List.mem_cons_self
    have hzs : ∀ a ∈ zs, f a = a := fun a ha => hl a (List.mem_cons_of_mem _ ha)
    unfold insertAsc
    rw [hf]
    split
    · simp [hz, List.map_congr_left hzs]
    · split
      · simp [List.map_congr_left hzs]
      · simp [hz, ih hzs]

/-- The first element with a property, after a map that keeps the property. -/
theorem find?_map_of_keeps (p : α → Bool) (f : α → α) (hf : ∀ a, p (f a) = p a) (l : List α) :
    (l.map f).find? p = (l.find? p).map f := by
  induction l with
  | nil => rfl
  | cons z zs ih =>
    simp only [List.map_cons, List.find?_cons, hf]
    split <;> simp_all

end Sys2Proof.Machine
end

