-- ==== Sys2Proof/Laws/State.lean ====
section
/-! SUPPORT. What each named operation leaves as it was: one lemma for each operation and each part of the state that it
does not touch, so that later proofs need not unfold it. -/

namespace Sys2Proof.Machine

/-! ### State.give -/

@[simp] theorem State.give_session (s : State) (b : NoticeBody) : (s.give b).session = s.session := rfl
@[simp] theorem State.give_claims (s : State) (b : NoticeBody) : (s.give b).claims = s.claims := rfl
@[simp] theorem State.give_answers (s : State) (b : NoticeBody) : (s.give b).answers = s.answers := rfl
@[simp] theorem State.give_roster (s : State) (b : NoticeBody) : (s.give b).roster = s.roster := rfl
@[simp] theorem State.give_view (s : State) (b : NoticeBody) : (s.give b).view = s.view := rfl
@[simp] theorem State.give_line (s : State) (b : NoticeBody) : (s.give b).line = s.line := rfl
@[simp] theorem State.give_scheduler (s : State) (b : NoticeBody) : (s.give b).scheduler = s.scheduler := rfl
@[simp] theorem State.give_standing (s : State) (b : NoticeBody) : (s.give b).standing = s.standing := rfl
@[simp] theorem State.give_link (s : State) (b : NoticeBody) : (s.give b).link = s.link := rfl
@[simp] theorem State.give_pending (s : State) (b : NoticeBody) : (s.give b).pending = s.pending := rfl

/-! ### State.giveAll -/

@[simp] theorem State.giveAll_session (s : State) (bs : List NoticeBody) : (s.giveAll bs).session = s.session := rfl
@[simp] theorem State.giveAll_claims (s : State) (bs : List NoticeBody) : (s.giveAll bs).claims = s.claims := rfl
@[simp] theorem State.giveAll_answers (s : State) (bs : List NoticeBody) : (s.giveAll bs).answers = s.answers := rfl
@[simp] theorem State.giveAll_roster (s : State) (bs : List NoticeBody) : (s.giveAll bs).roster = s.roster := rfl
@[simp] theorem State.giveAll_view (s : State) (bs : List NoticeBody) : (s.giveAll bs).view = s.view := rfl
@[simp] theorem State.giveAll_line (s : State) (bs : List NoticeBody) : (s.giveAll bs).line = s.line := rfl
@[simp] theorem State.giveAll_scheduler (s : State) (bs : List NoticeBody) :
    (s.giveAll bs).scheduler = s.scheduler := rfl
@[simp] theorem State.giveAll_standing (s : State) (bs : List NoticeBody) : (s.giveAll bs).standing = s.standing := rfl
@[simp] theorem State.giveAll_link (s : State) (bs : List NoticeBody) : (s.giveAll bs).link = s.link := rfl
@[simp] theorem State.giveAll_pending (s : State) (bs : List NoticeBody) : (s.giveAll bs).pending = s.pending := rfl

/-! ### State.modifyEntry -/

@[simp] theorem State.modifyEntry_session (s : State) (r : Resource) (f : ClaimEntry → ClaimEntry) :
    (s.modifyEntry r f).session = s.session := rfl
@[simp] theorem State.modifyEntry_answers (s : State) (r : Resource) (f : ClaimEntry → ClaimEntry) :
    (s.modifyEntry r f).answers = s.answers := rfl
@[simp] theorem State.modifyEntry_roster (s : State) (r : Resource) (f : ClaimEntry → ClaimEntry) :
    (s.modifyEntry r f).roster = s.roster := rfl
@[simp] theorem State.modifyEntry_view (s : State) (r : Resource) (f : ClaimEntry → ClaimEntry) :
    (s.modifyEntry r f).view = s.view := rfl
@[simp] theorem State.modifyEntry_line (s : State) (r : Resource) (f : ClaimEntry → ClaimEntry) :
    (s.modifyEntry r f).line = s.line := rfl
@[simp] theorem State.modifyEntry_scheduler (s : State) (r : Resource) (f : ClaimEntry → ClaimEntry) :
    (s.modifyEntry r f).scheduler = s.scheduler := rfl
@[simp] theorem State.modifyEntry_standing (s : State) (r : Resource) (f : ClaimEntry → ClaimEntry) :
    (s.modifyEntry r f).standing = s.standing := rfl
@[simp] theorem State.modifyEntry_notices (s : State) (r : Resource) (f : ClaimEntry → ClaimEntry) :
    (s.modifyEntry r f).notices = s.notices := rfl
@[simp] theorem State.modifyEntry_link (s : State) (r : Resource) (f : ClaimEntry → ClaimEntry) :
    (s.modifyEntry r f).link = s.link := rfl
@[simp] theorem State.modifyEntry_pending (s : State) (r : Resource) (f : ClaimEntry → ClaimEntry) :
    (s.modifyEntry r f).pending = s.pending := rfl

/-! ### State.placeRequest -/

@[simp] theorem State.placeRequest_session (s : State) (r : Resource) (q : Request) :
    (s.placeRequest r q).session = s.session := rfl
@[simp] theorem State.placeRequest_answers (s : State) (r : Resource) (q : Request) :
    (s.placeRequest r q).answers = s.answers := rfl
@[simp] theorem State.placeRequest_roster (s : State) (r : Resource) (q : Request) :
    (s.placeRequest r q).roster = s.roster := rfl
@[simp] theorem State.placeRequest_view (s : State) (r : Resource) (q : Request) :
    (s.placeRequest r q).view = s.view := rfl
@[simp] theorem State.placeRequest_line (s : State) (r : Resource) (q : Request) :
    (s.placeRequest r q).line = s.line := rfl
@[simp] theorem State.placeRequest_standing (s : State) (r : Resource) (q : Request) :
    (s.placeRequest r q).standing = s.standing := rfl
@[simp] theorem State.placeRequest_notices (s : State) (r : Resource) (q : Request) :
    (s.placeRequest r q).notices = s.notices := rfl
@[simp] theorem State.placeRequest_link (s : State) (r : Resource) (q : Request) :
    (s.placeRequest r q).link = s.link := rfl
@[simp] theorem State.placeRequest_pending (s : State) (r : Resource) (q : Request) :
    (s.placeRequest r q).pending = s.pending := rfl

/-! ### State.removeEntry -/

@[simp] theorem State.removeEntry_session (s : State) (r : Resource) : (s.removeEntry r).session = s.session := rfl
@[simp] theorem State.removeEntry_answers (s : State) (r : Resource) : (s.removeEntry r).answers = s.answers := rfl
@[simp] theorem State.removeEntry_roster (s : State) (r : Resource) : (s.removeEntry r).roster = s.roster := rfl
@[simp] theorem State.removeEntry_view (s : State) (r : Resource) : (s.removeEntry r).view = s.view := rfl
@[simp] theorem State.removeEntry_standing (s : State) (r : Resource) : (s.removeEntry r).standing = s.standing := rfl
@[simp] theorem State.removeEntry_notices (s : State) (r : Resource) : (s.removeEntry r).notices = s.notices := rfl
@[simp] theorem State.removeEntry_link (s : State) (r : Resource) : (s.removeEntry r).link = s.link := rfl
@[simp] theorem State.removeEntry_pending (s : State) (r : Resource) : (s.removeEntry r).pending = s.pending := rfl

/-! ### State.withdrawGrants -/

@[simp] theorem State.withdrawGrants_session (s : State) (p : GrantItem → Bool) :
    (s.withdrawGrants p).session = s.session := rfl
@[simp] theorem State.withdrawGrants_claims (s : State) (p : GrantItem → Bool) :
    (s.withdrawGrants p).claims = s.claims := rfl
@[simp] theorem State.withdrawGrants_roster (s : State) (p : GrantItem → Bool) :
    (s.withdrawGrants p).roster = s.roster := rfl
@[simp] theorem State.withdrawGrants_view (s : State) (p : GrantItem → Bool) : (s.withdrawGrants p).view = s.view := rfl
@[simp] theorem State.withdrawGrants_scheduler (s : State) (p : GrantItem → Bool) :
    (s.withdrawGrants p).scheduler = s.scheduler := rfl
@[simp] theorem State.withdrawGrants_standing (s : State) (p : GrantItem → Bool) :
    (s.withdrawGrants p).standing = s.standing := rfl
@[simp] theorem State.withdrawGrants_notices (s : State) (p : GrantItem → Bool) :
    (s.withdrawGrants p).notices = s.notices := rfl
@[simp] theorem State.withdrawGrants_link (s : State) (p : GrantItem → Bool) : (s.withdrawGrants p).link = s.link := rfl
@[simp] theorem State.withdrawGrants_pending (s : State) (p : GrantItem → Bool) :
    (s.withdrawGrants p).pending = s.pending := rfl

/-! ### State.enterReleasing -/

@[simp] theorem State.enterReleasing_session (s : State) (r : Resource) (c : CloseReason) :
    (s.enterReleasing r c).session = s.session := rfl
@[simp] theorem State.enterReleasing_answers (s : State) (r : Resource) (c : CloseReason) :
    (s.enterReleasing r c).answers = s.answers := rfl
@[simp] theorem State.enterReleasing_roster (s : State) (r : Resource) (c : CloseReason) :
    (s.enterReleasing r c).roster = s.roster := rfl
@[simp] theorem State.enterReleasing_view (s : State) (r : Resource) (c : CloseReason) :
    (s.enterReleasing r c).view = s.view := rfl
@[simp] theorem State.enterReleasing_line (s : State) (r : Resource) (c : CloseReason) :
    (s.enterReleasing r c).line = s.line := rfl
@[simp] theorem State.enterReleasing_standing (s : State) (r : Resource) (c : CloseReason) :
    (s.enterReleasing r c).standing = s.standing := rfl
@[simp] theorem State.enterReleasing_notices (s : State) (r : Resource) (c : CloseReason) :
    (s.enterReleasing r c).notices = s.notices := rfl
@[simp] theorem State.enterReleasing_link (s : State) (r : Resource) (c : CloseReason) :
    (s.enterReleasing r c).link = s.link := rfl
@[simp] theorem State.enterReleasing_pending (s : State) (r : Resource) (c : CloseReason) :
    (s.enterReleasing r c).pending = s.pending := rfl

/-! ### State.enterState -/

@[simp] theorem State.enterState_claims (s : State) (st : StationState) (c : StateCause) (o : Option Station) :
    (s.enterState st c o).claims = s.claims := rfl
@[simp] theorem State.enterState_answers (s : State) (st : StationState) (c : StateCause) (o : Option Station) :
    (s.enterState st c o).answers = s.answers := rfl
@[simp] theorem State.enterState_roster (s : State) (st : StationState) (c : StateCause) (o : Option Station) :
    (s.enterState st c o).roster = s.roster := rfl
@[simp] theorem State.enterState_view (s : State) (st : StationState) (c : StateCause) (o : Option Station) :
    (s.enterState st c o).view = s.view := rfl
@[simp] theorem State.enterState_line (s : State) (st : StationState) (c : StateCause) (o : Option Station) :
    (s.enterState st c o).line = s.line := rfl
@[simp] theorem State.enterState_scheduler (s : State) (st : StationState) (c : StateCause) (o : Option Station) :
    (s.enterState st c o).scheduler = s.scheduler := rfl
@[simp] theorem State.enterState_standing (s : State) (st : StationState) (c : StateCause) (o : Option Station) :
    (s.enterState st c o).standing = s.standing := rfl
@[simp] theorem State.enterState_link (s : State) (st : StationState) (c : StateCause) (o : Option Station) :
    (s.enterState st c o).link = s.link := rfl
@[simp] theorem State.enterState_pending (s : State) (st : StationState) (c : StateCause) (o : Option Station) :
    (s.enterState st c o).pending = s.pending := rfl

/-! ### State.deactivate -/

@[simp] theorem State.deactivate_session (s : State) : (s.deactivate).session = s.session := rfl
@[simp] theorem State.deactivate_claims (s : State) : (s.deactivate).claims = s.claims := rfl
@[simp] theorem State.deactivate_answers (s : State) : (s.deactivate).answers = s.answers := rfl
@[simp] theorem State.deactivate_roster (s : State) : (s.deactivate).roster = s.roster := rfl
@[simp] theorem State.deactivate_view (s : State) : (s.deactivate).view = s.view := rfl
@[simp] theorem State.deactivate_scheduler (s : State) : (s.deactivate).scheduler = s.scheduler := rfl
@[simp] theorem State.deactivate_standing (s : State) : (s.deactivate).standing = s.standing := rfl
@[simp] theorem State.deactivate_notices (s : State) : (s.deactivate).notices = s.notices := rfl
@[simp] theorem State.deactivate_link (s : State) : (s.deactivate).link = s.link := rfl
@[simp] theorem State.deactivate_pending (s : State) : (s.deactivate).pending = s.pending := rfl

/-! ### State.activate -/

@[simp] theorem State.activate_session (s : State) : (s.activate).session = s.session := rfl
@[simp] theorem State.activate_claims (s : State) : (s.activate).claims = s.claims := rfl
@[simp] theorem State.activate_answers (s : State) : (s.activate).answers = s.answers := rfl
@[simp] theorem State.activate_roster (s : State) : (s.activate).roster = s.roster := rfl
@[simp] theorem State.activate_view (s : State) : (s.activate).view = s.view := rfl
@[simp] theorem State.activate_scheduler (s : State) : (s.activate).scheduler = s.scheduler := rfl
@[simp] theorem State.activate_standing (s : State) : (s.activate).standing = s.standing := rfl
@[simp] theorem State.activate_notices (s : State) : (s.activate).notices = s.notices := rfl
@[simp] theorem State.activate_link (s : State) : (s.activate).link = s.link := rfl
@[simp] theorem State.activate_pending (s : State) : (s.activate).pending = s.pending := rfl

/-! ### State.enterListening -/

@[simp] theorem State.enterListening_claims (s : State) (c : StateCause) (o : Option Station) :
    (s.enterListening c o).claims = s.claims := rfl
@[simp] theorem State.enterListening_answers (s : State) (c : StateCause) (o : Option Station) :
    (s.enterListening c o).answers = s.answers := rfl
@[simp] theorem State.enterListening_roster (s : State) (c : StateCause) (o : Option Station) :
    (s.enterListening c o).roster = s.roster := rfl
@[simp] theorem State.enterListening_view (s : State) (c : StateCause) (o : Option Station) :
    (s.enterListening c o).view = s.view := rfl
@[simp] theorem State.enterListening_scheduler (s : State) (c : StateCause) (o : Option Station) :
    (s.enterListening c o).scheduler = s.scheduler := rfl
@[simp] theorem State.enterListening_standing (s : State) (c : StateCause) (o : Option Station) :
    (s.enterListening c o).standing = s.standing := rfl
@[simp] theorem State.enterListening_link (s : State) (c : StateCause) (o : Option Station) :
    (s.enterListening c o).link = s.link := rfl
@[simp] theorem State.enterListening_pending (s : State) (c : StateCause) (o : Option Station) :
    (s.enterListening c o).pending = s.pending := rfl

/-! ### State.clearCollections -/

@[simp] theorem State.clearCollections_session (s : State) : (s.clearCollections).session = s.session := rfl
@[simp] theorem State.clearCollections_roster (s : State) : (s.clearCollections).roster = s.roster := rfl
@[simp] theorem State.clearCollections_standing (s : State) : (s.clearCollections).standing = s.standing := rfl
@[simp] theorem State.clearCollections_notices (s : State) : (s.clearCollections).notices = s.notices := rfl
@[simp] theorem State.clearCollections_link (s : State) : (s.clearCollections).link = s.link := rfl
@[simp] theorem State.clearCollections_pending (s : State) : (s.clearCollections).pending = s.pending := rfl

/-! ### State.sessionClear -/

@[simp] theorem State.sessionClear_session (s : State) (c : SessionCause) :
    (s.sessionClear c).session = s.session := rfl
@[simp] theorem State.sessionClear_roster (s : State) (c : SessionCause) : (s.sessionClear c).roster = s.roster := rfl
@[simp] theorem State.sessionClear_standing (s : State) (c : SessionCause) :
    (s.sessionClear c).standing = s.standing := rfl
@[simp] theorem State.sessionClear_link (s : State) (c : SessionCause) : (s.sessionClear c).link = s.link := rfl
@[simp] theorem State.sessionClear_pending (s : State) (c : SessionCause) :
    (s.sessionClear c).pending = s.pending := rfl

/-! ### State.stopTimers -/

@[simp] theorem State.stopTimers_claims (s : State) : (s.stopTimers).claims = s.claims := rfl
@[simp] theorem State.stopTimers_answers (s : State) : (s.stopTimers).answers = s.answers := rfl
@[simp] theorem State.stopTimers_roster (s : State) : (s.stopTimers).roster = s.roster := rfl
@[simp] theorem State.stopTimers_view (s : State) : (s.stopTimers).view = s.view := rfl
@[simp] theorem State.stopTimers_line (s : State) : (s.stopTimers).line = s.line := rfl
@[simp] theorem State.stopTimers_scheduler (s : State) : (s.stopTimers).scheduler = s.scheduler := rfl
@[simp] theorem State.stopTimers_standing (s : State) : (s.stopTimers).standing = s.standing := rfl
@[simp] theorem State.stopTimers_notices (s : State) : (s.stopTimers).notices = s.notices := rfl
@[simp] theorem State.stopTimers_link (s : State) : (s.stopTimers).link = s.link := rfl
@[simp] theorem State.stopTimers_pending (s : State) : (s.stopTimers).pending = s.pending := rfl

/-! ### State.clearRoster -/

@[simp] theorem State.clearRoster_session (s : State) : (s.clearRoster).session = s.session := rfl
@[simp] theorem State.clearRoster_claims (s : State) : (s.clearRoster).claims = s.claims := rfl
@[simp] theorem State.clearRoster_answers (s : State) : (s.clearRoster).answers = s.answers := rfl
@[simp] theorem State.clearRoster_view (s : State) : (s.clearRoster).view = s.view := rfl
@[simp] theorem State.clearRoster_line (s : State) : (s.clearRoster).line = s.line := rfl
@[simp] theorem State.clearRoster_scheduler (s : State) : (s.clearRoster).scheduler = s.scheduler := rfl
@[simp] theorem State.clearRoster_standing (s : State) : (s.clearRoster).standing = s.standing := rfl
@[simp] theorem State.clearRoster_notices (s : State) : (s.clearRoster).notices = s.notices := rfl
@[simp] theorem State.clearRoster_link (s : State) : (s.clearRoster).link = s.link := rfl
@[simp] theorem State.clearRoster_pending (s : State) : (s.clearRoster).pending = s.pending := rfl

/-! ### State.endSession -/

@[simp] theorem State.endSession_standing (s : State) (c : SessionCause) : (s.endSession c).standing = s.standing := rfl
@[simp] theorem State.endSession_link (s : State) (c : SessionCause) : (s.endSession c).link = s.link := rfl
@[simp] theorem State.endSession_pending (s : State) (c : SessionCause) : (s.endSession c).pending = s.pending := rfl

/-! ### State.lapse -/

@[simp] theorem State.lapse_standing (s : State) (o : Option Station) : (s.lapse o).standing = s.standing := rfl
@[simp] theorem State.lapse_link (s : State) (o : Option Station) : (s.lapse o).link = s.link := rfl
@[simp] theorem State.lapse_pending (s : State) (o : Option Station) : (s.lapse o).pending = s.pending := rfl

/-! ### State.duplicateNumber -/

@[simp] theorem State.duplicateNumber_standing (s : State) : (s.duplicateNumber).standing = s.standing := rfl
@[simp] theorem State.duplicateNumber_link (s : State) : (s.duplicateNumber).link = s.link := rfl
@[simp] theorem State.duplicateNumber_pending (s : State) : (s.duplicateNumber).pending = s.pending := rfl

/-! ### State.setCounts -/

@[simp] theorem State.setCounts_session (s : State) (a b : Nat) :
    (s.setCounts a b).session = s.session := by unfold State.setCounts; dsimp only; split <;> rfl
@[simp] theorem State.setCounts_claims (s : State) (a b : Nat) :
    (s.setCounts a b).claims = s.claims := by unfold State.setCounts; dsimp only; split <;> rfl
@[simp] theorem State.setCounts_answers (s : State) (a b : Nat) :
    (s.setCounts a b).answers = s.answers := by unfold State.setCounts; dsimp only; split <;> rfl
@[simp] theorem State.setCounts_roster (s : State) (a b : Nat) :
    (s.setCounts a b).roster = s.roster := by unfold State.setCounts; dsimp only; split <;> rfl
@[simp] theorem State.setCounts_view (s : State) (a b : Nat) :
    (s.setCounts a b).view = s.view := by unfold State.setCounts; dsimp only; split <;> rfl
@[simp] theorem State.setCounts_line (s : State) (a b : Nat) :
    (s.setCounts a b).line = s.line := by unfold State.setCounts; dsimp only; split <;> rfl
@[simp] theorem State.setCounts_scheduler (s : State) (a b : Nat) :
    (s.setCounts a b).scheduler = s.scheduler := by unfold State.setCounts; dsimp only; split <;> rfl
@[simp] theorem State.setCounts_link (s : State) (a b : Nat) :
    (s.setCounts a b).link = s.link := by unfold State.setCounts; dsimp only; split <;> rfl
@[simp] theorem State.setCounts_pending (s : State) (a b : Nat) :
    (s.setCounts a b).pending = s.pending := by unfold State.setCounts; dsimp only; split <;> rfl

/-! ### State.completeRecovery -/

@[simp] theorem State.completeRecovery_claims (s : State) : (s.completeRecovery).claims = s.claims := rfl
@[simp] theorem State.completeRecovery_answers (s : State) : (s.completeRecovery).answers = s.answers := rfl
@[simp] theorem State.completeRecovery_roster (s : State) : (s.completeRecovery).roster = s.roster := rfl
@[simp] theorem State.completeRecovery_view (s : State) : (s.completeRecovery).view = s.view := rfl
@[simp] theorem State.completeRecovery_scheduler (s : State) : (s.completeRecovery).scheduler = s.scheduler := rfl
@[simp] theorem State.completeRecovery_link (s : State) : (s.completeRecovery).link = s.link := rfl
@[simp] theorem State.completeRecovery_pending (s : State) : (s.completeRecovery).pending = s.pending := rfl

/-! ### State.modifyMember -/

@[simp] theorem State.modifyMember_session (s : State) (x : Station) (f : Member → Member) :
    (s.modifyMember x f).session = s.session := rfl
@[simp] theorem State.modifyMember_claims (s : State) (x : Station) (f : Member → Member) :
    (s.modifyMember x f).claims = s.claims := rfl
@[simp] theorem State.modifyMember_answers (s : State) (x : Station) (f : Member → Member) :
    (s.modifyMember x f).answers = s.answers := rfl
@[simp] theorem State.modifyMember_view (s : State) (x : Station) (f : Member → Member) :
    (s.modifyMember x f).view = s.view := rfl
@[simp] theorem State.modifyMember_line (s : State) (x : Station) (f : Member → Member) :
    (s.modifyMember x f).line = s.line := rfl
@[simp] theorem State.modifyMember_scheduler (s : State) (x : Station) (f : Member → Member) :
    (s.modifyMember x f).scheduler = s.scheduler := rfl
@[simp] theorem State.modifyMember_standing (s : State) (x : Station) (f : Member → Member) :
    (s.modifyMember x f).standing = s.standing := rfl
@[simp] theorem State.modifyMember_notices (s : State) (x : Station) (f : Member → Member) :
    (s.modifyMember x f).notices = s.notices := rfl
@[simp] theorem State.modifyMember_link (s : State) (x : Station) (f : Member → Member) :
    (s.modifyMember x f).link = s.link := rfl
@[simp] theorem State.modifyMember_pending (s : State) (x : Station) (f : Member → Member) :
    (s.modifyMember x f).pending = s.pending := rfl

/-! ### State.placeResend -/

@[simp] theorem State.placeResend_session (s : State) (r : Resource) :
    (s.placeResend r).session = s.session := by unfold State.placeResend; split <;> [rfl; (dsimp only; split <;> rfl)]
@[simp] theorem State.placeResend_answers (s : State) (r : Resource) :
    (s.placeResend r).answers = s.answers := by unfold State.placeResend; split <;> [rfl; (dsimp only; split <;> rfl)]
@[simp] theorem State.placeResend_roster (s : State) (r : Resource) :
    (s.placeResend r).roster = s.roster := by unfold State.placeResend; split <;> [rfl; (dsimp only; split <;> rfl)]
@[simp] theorem State.placeResend_view (s : State) (r : Resource) :
    (s.placeResend r).view = s.view := by unfold State.placeResend; split <;> [rfl; (dsimp only; split <;> rfl)]
@[simp] theorem State.placeResend_line (s : State) (r : Resource) :
    (s.placeResend r).line = s.line := by unfold State.placeResend; split <;> [rfl; (dsimp only; split <;> rfl)]
@[simp] theorem State.placeResend_standing (s : State) (r : Resource) :
    (s.placeResend r).standing = s.standing := by unfold State.placeResend; split <;> [rfl; (dsimp only; split <;> rfl)]
@[simp] theorem State.placeResend_notices (s : State) (r : Resource) :
    (s.placeResend r).notices = s.notices := by unfold State.placeResend; split <;> [rfl; (dsimp only; split <;> rfl)]
@[simp] theorem State.placeResend_link (s : State) (r : Resource) :
    (s.placeResend r).link = s.link := by unfold State.placeResend; split <;> [rfl; (dsimp only; split <;> rfl)]
@[simp] theorem State.placeResend_pending (s : State) (r : Resource) :
    (s.placeResend r).pending = s.pending := by unfold State.placeResend; split <;> [rfl; (dsimp only; split <;> rfl)]

/-! ### State.resendNow -/

@[simp] theorem State.resendNow_session (s : State) (r : Resource) :
    (s.resendNow r).session = s.session := by unfold State.resendNow; simp
@[simp] theorem State.resendNow_answers (s : State) (r : Resource) :
    (s.resendNow r).answers = s.answers := by unfold State.resendNow; simp
@[simp] theorem State.resendNow_roster (s : State) (r : Resource) :
    (s.resendNow r).roster = s.roster := by unfold State.resendNow; simp
@[simp] theorem State.resendNow_view (s : State) (r : Resource) :
    (s.resendNow r).view = s.view := by unfold State.resendNow; simp
@[simp] theorem State.resendNow_line (s : State) (r : Resource) :
    (s.resendNow r).line = s.line := by unfold State.resendNow; simp
@[simp] theorem State.resendNow_standing (s : State) (r : Resource) :
    (s.resendNow r).standing = s.standing := by unfold State.resendNow; simp
@[simp] theorem State.resendNow_notices (s : State) (r : Resource) :
    (s.resendNow r).notices = s.notices := by unfold State.resendNow; simp
@[simp] theorem State.resendNow_link (s : State) (r : Resource) :
    (s.resendNow r).link = s.link := by unfold State.resendNow; simp
@[simp] theorem State.resendNow_pending (s : State) (r : Resource) :
    (s.resendNow r).pending = s.pending := by unfold State.resendNow; simp

/-! ### State.await -/

@[simp] theorem State.await_session (s : State) (r : Resource) (x : Station) :
    (s.await r x).session = s.session := by unfold State.await; split <;> [rfl; (split <;> [(dsimp only; split <;> simp); rfl])]
@[simp] theorem State.await_answers (s : State) (r : Resource) (x : Station) :
    (s.await r x).answers = s.answers := by unfold State.await; split <;> [rfl; (split <;> [(dsimp only; split <;> simp); rfl])]
@[simp] theorem State.await_roster (s : State) (r : Resource) (x : Station) :
    (s.await r x).roster = s.roster := by unfold State.await; split <;> [rfl; (split <;> [(dsimp only; split <;> simp); rfl])]
@[simp] theorem State.await_view (s : State) (r : Resource) (x : Station) :
    (s.await r x).view = s.view := by unfold State.await; split <;> [rfl; (split <;> [(dsimp only; split <;> simp); rfl])]
@[simp] theorem State.await_line (s : State) (r : Resource) (x : Station) :
    (s.await r x).line = s.line := by unfold State.await; split <;> [rfl; (split <;> [(dsimp only; split <;> simp); rfl])]
@[simp] theorem State.await_standing (s : State) (r : Resource) (x : Station) :
    (s.await r x).standing = s.standing := by unfold State.await; split <;> [rfl; (split <;> [(dsimp only; split <;> simp); rfl])]
@[simp] theorem State.await_notices (s : State) (r : Resource) (x : Station) :
    (s.await r x).notices = s.notices := by unfold State.await; split <;> [rfl; (split <;> [(dsimp only; split <;> simp); rfl])]
@[simp] theorem State.await_link (s : State) (r : Resource) (x : Station) :
    (s.await r x).link = s.link := by unfold State.await; split <;> [rfl; (split <;> [(dsimp only; split <;> simp); rfl])]
@[simp] theorem State.await_pending (s : State) (r : Resource) (x : Station) :
    (s.await r x).pending = s.pending := by unfold State.await; split <;> [rfl; (split <;> [(dsimp only; split <;> simp); rfl])]

/-! ### State.takeSilencing -/

@[simp] theorem State.takeSilencing_standing (s : State) :
    (s.takeSilencing).standing = s.standing := by unfold State.takeSilencing; split <;> simp
@[simp] theorem State.takeSilencing_link (s : State) :
    (s.takeSilencing).link = s.link := by unfold State.takeSilencing; split <;> simp
@[simp] theorem State.takeSilencing_pending (s : State) :
    (s.takeSilencing).pending = s.pending := by unfold State.takeSilencing; split <;> simp

/-! ### State.countCompleted -/

@[simp] theorem State.countCompleted_session (s : State) :
    (s.countCompleted).session = s.session := by unfold State.countCompleted; split <;> simp
@[simp] theorem State.countCompleted_claims (s : State) :
    (s.countCompleted).claims = s.claims := by unfold State.countCompleted; split <;> simp
@[simp] theorem State.countCompleted_answers (s : State) :
    (s.countCompleted).answers = s.answers := by unfold State.countCompleted; split <;> simp
@[simp] theorem State.countCompleted_roster (s : State) :
    (s.countCompleted).roster = s.roster := by unfold State.countCompleted; split <;> simp
@[simp] theorem State.countCompleted_view (s : State) :
    (s.countCompleted).view = s.view := by unfold State.countCompleted; split <;> simp
@[simp] theorem State.countCompleted_line (s : State) :
    (s.countCompleted).line = s.line := by unfold State.countCompleted; split <;> simp
@[simp] theorem State.countCompleted_scheduler (s : State) :
    (s.countCompleted).scheduler = s.scheduler := by unfold State.countCompleted; split <;> simp
@[simp] theorem State.countCompleted_link (s : State) :
    (s.countCompleted).link = s.link := by unfold State.countCompleted; split <;> simp
@[simp] theorem State.countCompleted_pending (s : State) :
    (s.countCompleted).pending = s.pending := by unfold State.countCompleted; split <;> simp

/-! ### State.countValid -/

@[simp] theorem State.countValid_session (s : State) :
    (s.countValid).session = s.session := by unfold State.countValid; split <;> simp
@[simp] theorem State.countValid_claims (s : State) :
    (s.countValid).claims = s.claims := by unfold State.countValid; split <;> simp
@[simp] theorem State.countValid_answers (s : State) :
    (s.countValid).answers = s.answers := by unfold State.countValid; split <;> simp
@[simp] theorem State.countValid_roster (s : State) :
    (s.countValid).roster = s.roster := by unfold State.countValid; split <;> simp
@[simp] theorem State.countValid_view (s : State) :
    (s.countValid).view = s.view := by unfold State.countValid; split <;> simp
@[simp] theorem State.countValid_line (s : State) :
    (s.countValid).line = s.line := by unfold State.countValid; split <;> simp
@[simp] theorem State.countValid_scheduler (s : State) :
    (s.countValid).scheduler = s.scheduler := by unfold State.countValid; split <;> simp
@[simp] theorem State.countValid_link (s : State) :
    (s.countValid).link = s.link := by unfold State.countValid; split <;> simp
@[simp] theorem State.countValid_pending (s : State) :
    (s.countValid).pending = s.pending := by unfold State.countValid; split <;> simp

/-! ### State.countReceiveFault -/

@[simp] theorem State.countReceiveFault_session (s : State) :
    (s.countReceiveFault).session = s.session := by unfold State.countReceiveFault; split <;> simp
@[simp] theorem State.countReceiveFault_claims (s : State) :
    (s.countReceiveFault).claims = s.claims := by unfold State.countReceiveFault; split <;> simp
@[simp] theorem State.countReceiveFault_answers (s : State) :
    (s.countReceiveFault).answers = s.answers := by unfold State.countReceiveFault; split <;> simp
@[simp] theorem State.countReceiveFault_roster (s : State) :
    (s.countReceiveFault).roster = s.roster := by unfold State.countReceiveFault; split <;> simp
@[simp] theorem State.countReceiveFault_view (s : State) :
    (s.countReceiveFault).view = s.view := by unfold State.countReceiveFault; split <;> simp
@[simp] theorem State.countReceiveFault_line (s : State) :
    (s.countReceiveFault).line = s.line := by unfold State.countReceiveFault; split <;> simp
@[simp] theorem State.countReceiveFault_scheduler (s : State) :
    (s.countReceiveFault).scheduler = s.scheduler := by unfold State.countReceiveFault; split <;> simp
@[simp] theorem State.countReceiveFault_link (s : State) :
    (s.countReceiveFault).link = s.link := by unfold State.countReceiveFault; split <;> simp
@[simp] theorem State.countReceiveFault_pending (s : State) :
    (s.countReceiveFault).pending = s.pending := by unfold State.countReceiveFault; split <;> simp

/-! ### State.takeUpClock -/

@[simp] theorem State.takeUpClock_session (s : State) (c : Clock) : (s.takeUpClock c).session = s.session := rfl
@[simp] theorem State.takeUpClock_answers (s : State) (c : Clock) : (s.takeUpClock c).answers = s.answers := rfl
@[simp] theorem State.takeUpClock_roster (s : State) (c : Clock) : (s.takeUpClock c).roster = s.roster := rfl
@[simp] theorem State.takeUpClock_view (s : State) (c : Clock) : (s.takeUpClock c).view = s.view := rfl
@[simp] theorem State.takeUpClock_line (s : State) (c : Clock) : (s.takeUpClock c).line = s.line := rfl
@[simp] theorem State.takeUpClock_scheduler (s : State) (c : Clock) : (s.takeUpClock c).scheduler = s.scheduler := rfl
@[simp] theorem State.takeUpClock_standing (s : State) (c : Clock) : (s.takeUpClock c).standing = s.standing := rfl
@[simp] theorem State.takeUpClock_notices (s : State) (c : Clock) : (s.takeUpClock c).notices = s.notices := rfl
@[simp] theorem State.takeUpClock_link (s : State) (c : Clock) : (s.takeUpClock c).link = s.link := rfl
@[simp] theorem State.takeUpClock_pending (s : State) (c : Clock) : (s.takeUpClock c).pending = s.pending := rfl

/-! ### State.validFrame -/

@[simp] theorem State.validFrame_session (s : State) (h : Header) :
    (s.validFrame h).session = s.session := by unfold State.validFrame; simp
@[simp] theorem State.validFrame_answers (s : State) (h : Header) :
    (s.validFrame h).answers = s.answers := by unfold State.validFrame; simp
@[simp] theorem State.validFrame_roster (s : State) (h : Header) :
    (s.validFrame h).roster = s.roster := by unfold State.validFrame; simp
@[simp] theorem State.validFrame_view (s : State) (h : Header) :
    (s.validFrame h).view = s.view := by unfold State.validFrame; simp
@[simp] theorem State.validFrame_scheduler (s : State) (h : Header) :
    (s.validFrame h).scheduler = s.scheduler := by unfold State.validFrame; simp
@[simp] theorem State.validFrame_link (s : State) (h : Header) :
    (s.validFrame h).link = s.link := by unfold State.validFrame; simp
@[simp] theorem State.validFrame_pending (s : State) (h : Header) :
    (s.validFrame h).pending = s.pending := by unfold State.validFrame; simp

/-! ### State.startFrame -/

@[simp] theorem State.startFrame_session (s : State) (k : SentKind) (b : Body) (n : Slot) :
    (s.startFrame k b n).session = s.session := rfl
@[simp] theorem State.startFrame_claims (s : State) (k : SentKind) (b : Body) (n : Slot) :
    (s.startFrame k b n).claims = s.claims := rfl
@[simp] theorem State.startFrame_answers (s : State) (k : SentKind) (b : Body) (n : Slot) :
    (s.startFrame k b n).answers = s.answers := rfl
@[simp] theorem State.startFrame_roster (s : State) (k : SentKind) (b : Body) (n : Slot) :
    (s.startFrame k b n).roster = s.roster := rfl
@[simp] theorem State.startFrame_view (s : State) (k : SentKind) (b : Body) (n : Slot) :
    (s.startFrame k b n).view = s.view := rfl
@[simp] theorem State.startFrame_scheduler (s : State) (k : SentKind) (b : Body) (n : Slot) :
    (s.startFrame k b n).scheduler = s.scheduler := rfl
@[simp] theorem State.startFrame_standing (s : State) (k : SentKind) (b : Body) (n : Slot) :
    (s.startFrame k b n).standing = s.standing := rfl
@[simp] theorem State.startFrame_notices (s : State) (k : SentKind) (b : Body) (n : Slot) :
    (s.startFrame k b n).notices = s.notices := rfl
@[simp] theorem State.startFrame_link (s : State) (k : SentKind) (b : Body) (n : Slot) :
    (s.startFrame k b n).link = s.link := rfl
@[simp] theorem State.startFrame_pending (s : State) (k : SentKind) (b : Body) (n : Slot) :
    (s.startFrame k b n).pending = s.pending := rfl

/-! ### State.alternate -/

@[simp] theorem State.alternate_session (s : State) (n : Nat) : (s.alternate n).session = s.session := rfl
@[simp] theorem State.alternate_claims (s : State) (n : Nat) : (s.alternate n).claims = s.claims := rfl
@[simp] theorem State.alternate_answers (s : State) (n : Nat) : (s.alternate n).answers = s.answers := rfl
@[simp] theorem State.alternate_roster (s : State) (n : Nat) : (s.alternate n).roster = s.roster := rfl
@[simp] theorem State.alternate_view (s : State) (n : Nat) : (s.alternate n).view = s.view := rfl
@[simp] theorem State.alternate_line (s : State) (n : Nat) : (s.alternate n).line = s.line := rfl
@[simp] theorem State.alternate_standing (s : State) (n : Nat) : (s.alternate n).standing = s.standing := rfl
@[simp] theorem State.alternate_notices (s : State) (n : Nat) : (s.alternate n).notices = s.notices := rfl
@[simp] theorem State.alternate_link (s : State) (n : Nat) : (s.alternate n).link = s.link := rfl
@[simp] theorem State.alternate_pending (s : State) (n : Nat) : (s.alternate n).pending = s.pending := rfl

/-! ### State.slotCompletes -/

@[simp] theorem State.slotCompletes_session (s : State) (r : Resource) :
    (s.slotCompletes r).session = s.session := by unfold State.slotCompletes; dsimp only; split <;> rfl
@[simp] theorem State.slotCompletes_answers (s : State) (r : Resource) :
    (s.slotCompletes r).answers = s.answers := by unfold State.slotCompletes; dsimp only; split <;> rfl
@[simp] theorem State.slotCompletes_roster (s : State) (r : Resource) :
    (s.slotCompletes r).roster = s.roster := by unfold State.slotCompletes; dsimp only; split <;> rfl
@[simp] theorem State.slotCompletes_view (s : State) (r : Resource) :
    (s.slotCompletes r).view = s.view := by unfold State.slotCompletes; dsimp only; split <;> rfl
@[simp] theorem State.slotCompletes_line (s : State) (r : Resource) :
    (s.slotCompletes r).line = s.line := by unfold State.slotCompletes; dsimp only; split <;> rfl
@[simp] theorem State.slotCompletes_standing (s : State) (r : Resource) :
    (s.slotCompletes r).standing = s.standing := by unfold State.slotCompletes; dsimp only; split <;> rfl
@[simp] theorem State.slotCompletes_notices (s : State) (r : Resource) :
    (s.slotCompletes r).notices = s.notices := by unfold State.slotCompletes; dsimp only; split <;> rfl
@[simp] theorem State.slotCompletes_link (s : State) (r : Resource) :
    (s.slotCompletes r).link = s.link := by unfold State.slotCompletes; dsimp only; split <;> rfl
@[simp] theorem State.slotCompletes_pending (s : State) (r : Resource) :
    (s.slotCompletes r).pending = s.pending := by unfold State.slotCompletes; dsimp only; split <;> rfl

/-! ### State.presenceTimers -/

@[simp] theorem State.presenceTimers_claims (s : State) : (s.presenceTimers).claims = s.claims := rfl
@[simp] theorem State.presenceTimers_answers (s : State) : (s.presenceTimers).answers = s.answers := rfl
@[simp] theorem State.presenceTimers_roster (s : State) : (s.presenceTimers).roster = s.roster := rfl
@[simp] theorem State.presenceTimers_view (s : State) : (s.presenceTimers).view = s.view := rfl
@[simp] theorem State.presenceTimers_line (s : State) : (s.presenceTimers).line = s.line := rfl
@[simp] theorem State.presenceTimers_standing (s : State) : (s.presenceTimers).standing = s.standing := rfl
@[simp] theorem State.presenceTimers_notices (s : State) : (s.presenceTimers).notices = s.notices := rfl
@[simp] theorem State.presenceTimers_link (s : State) : (s.presenceTimers).link = s.link := rfl
@[simp] theorem State.presenceTimers_pending (s : State) : (s.presenceTimers).pending = s.pending := rfl

/-! ### What the operations set -/

@[simp] theorem State.give_notices (s : State) (b : NoticeBody) : (s.give b).notices = s.notices.give b := rfl
@[simp] theorem State.giveAll_notices (s : State) (bs : List NoticeBody) :
    (s.giveAll bs).notices = bs.foldl NoticeQueue.give s.notices := rfl
@[simp] theorem State.enterState_state (s : State) (st : StationState) (c : StateCause) (o : Option Station) :
    (s.enterState st c o).session.state = st := rfl
@[simp] theorem State.enterState_notices (s : State) (st : StationState) (c : StateCause) (o : Option Station) :
    (s.enterState st c o).notices = s.notices.give (.session st c o) := rfl
@[simp] theorem State.enterListening_state (s : State) (c : StateCause) (o : Option Station) :
    (s.enterListening c o).session.state = .listening := rfl
@[simp] theorem State.clearRoster_roster (s : State) : s.clearRoster.roster = [] := rfl
@[simp] theorem State.clearCollections_table (s : State) : s.clearCollections.claims.table = [] := rfl
@[simp] theorem State.clearCollections_clock (s : State) : s.clearCollections.claims.clock = s.claims.clock := rfl
@[simp] theorem State.clearCollections_answers (s : State) : s.clearCollections.answers = [] := rfl
@[simp] theorem State.clearCollections_view (s : State) : s.clearCollections.view = viewUnknown := rfl
@[simp] theorem State.clearCollections_scheduler (s : State) : s.clearCollections.scheduler = .reset := rfl
@[simp] theorem State.endSession_table (s : State) (c : SessionCause) : (s.endSession c).claims.table = [] := rfl
@[simp] theorem State.endSession_clock (s : State) (c : SessionCause) :
    (s.endSession c).claims.clock = s.claims.clock := rfl
@[simp] theorem State.endSession_answers (s : State) (c : SessionCause) : (s.endSession c).answers = [] := rfl
@[simp] theorem State.endSession_roster (s : State) (c : SessionCause) : (s.endSession c).roster = [] := rfl
@[simp] theorem State.endSession_view (s : State) (c : SessionCause) : (s.endSession c).view = viewUnknown := rfl
@[simp] theorem State.modifyEntry_clock (s : State) (r : Resource) (f : ClaimEntry → ClaimEntry) :
    (s.modifyEntry r f).claims.clock = s.claims.clock := rfl
@[simp] theorem State.placeRequest_clock (s : State) (r : Resource) (q : Request) :
    (s.placeRequest r q).claims.clock = s.claims.clock := rfl
@[simp] theorem State.removeEntry_clock (s : State) (r : Resource) :
    (s.removeEntry r).claims.clock = s.claims.clock := rfl
@[simp] theorem State.takeUpClock_clock (s : State) (c : Clock) :
    (s.takeUpClock c).claims.clock = takeUp s.claims.clock c := rfl
@[simp] theorem State.takeUpClock_seq (s : State) (c : Clock) : (s.takeUpClock c).claims.seq = s.claims.seq := rfl
@[simp] theorem State.takeUpClock_table (s : State) (c : Clock) :
    (s.takeUpClock c).claims.table = s.claims.table := rfl

end Sys2Proof.Machine
end

