-- ==== Sys2Proof/Laws/Entries.lean ====
section
/-! SUPPORT. What the operations on the claim table do to the entry of each resource: `entry?` after each of them. -/

namespace Sys2Proof.Machine

/-- The entry found for a resource is the resource's. -/
theorem State.entry?_resource {s : State} {r : Resource} {e : ClaimEntry} (h : s.entry? r = some e) : e.resource = r := by
  have := List.find?_some h
  simpa using this

/-- The entry found for a resource is in the table. -/
theorem State.entry?_mem {s : State} {r : Resource} {e : ClaimEntry} (h : s.entry? r = some e) : e ∈ s.claims.table :=
  List.mem_of_find?_eq_some h

/-- No entry is found for a resource exactly when the table has none. -/
theorem State.entry?_eq_none {s : State} {r : Resource} :
    s.entry? r = none ↔ ∀ e ∈ s.claims.table, e.resource ≠ r := by
  simp [State.entry?, ClaimEngine.entry?, List.find?_eq_none]

/-- `entry?` reads the table alone. -/
theorem State.entry?_congr {s t : State} (h : t.claims.table = s.claims.table) (r : Resource) : t.entry? r = s.entry? r := by
  simp [State.entry?, ClaimEngine.entry?, h]

/-- The table after `modifyEntry`. -/
theorem State.modifyEntry_table (s : State) (r : Resource) (f : ClaimEntry → ClaimEntry) :
    (s.modifyEntry r f).claims.table = s.claims.table.map fun e => if e.resource = r then f e else e := rfl

/-- `modifyEntry` changes the entry of its resource and no other, where `f` keeps the resource. -/
theorem State.entry?_modifyEntry (s : State) (r r' : Resource) (f : ClaimEntry → ClaimEntry)
    (hf : ∀ e, (f e).resource = e.resource) :
    (s.modifyEntry r f).entry? r' = if r' = r then (s.entry? r').map f else s.entry? r' := by
  unfold State.entry? ClaimEngine.entry?
  rw [State.modifyEntry_table, find?_map_of_keeps]
  · split
    · rename_i h
      cases hfind : s.claims.table.find? (fun e => e.resource == r') with
      | none => rfl
      | some e =>
        have : e.resource = r' := by simpa using List.find?_some hfind
        simp [this, h]
    · rename_i h
      cases hfind : s.claims.table.find? (fun e => e.resource == r') with
      | none => rfl
      | some e =>
        have : e.resource = r' := by simpa using List.find?_some hfind
        simp [this, h]
  · intro e
    by_cases he : e.resource = r
    · simp only [he, if_true]; rw [hf, he]
    · simp [he]

/-- The table after `placeRequest`. -/
theorem State.placeRequest_table (s : State) (r : Resource) (q : Request) :
    (s.placeRequest r q).claims.table =
      s.claims.table.map fun e => if e.resource = r then { e with slot := { e.slot with unsent := some q } } else e := rfl

/-- `placeRequest` fills the slot of its entry and leaves the others. -/
theorem State.entry?_placeRequest (s : State) (r r' : Resource) (q : Request) :
    (s.placeRequest r q).entry? r' =
      if r' = r then (s.entry? r').map fun e => { e with slot := { e.slot with unsent := some q } } else s.entry? r' :=
  State.entry?_modifyEntry s r r' _ fun _ => rfl

/-- `placeRequest` makes its slot the newest. -/
theorem State.placeRequest_scheduler (s : State) (r : Resource) (q : Request) :
    (s.placeRequest r q).scheduler =
      { s.scheduler with order := s.scheduler.order.filter (· != .entry r) ++ [.entry r] } := rfl

/-- Operations that leave the table leave every entry. -/
@[simp] theorem State.entry?_withdrawGrants (s : State) (p : GrantItem → Bool) (r : Resource) :
    (s.withdrawGrants p).entry? r = s.entry? r := rfl

@[simp] theorem State.entry?_give (s : State) (b : NoticeBody) (r : Resource) : (s.give b).entry? r = s.entry? r := rfl

@[simp] theorem State.entry?_giveAll (s : State) (bs : List NoticeBody) (r : Resource) :
    (s.giveAll bs).entry? r = s.entry? r := rfl

@[simp] theorem State.entry?_modifyMember (s : State) (x : Station) (f : Member → Member) (r : Resource) :
    (s.modifyMember x f).entry? r = s.entry? r := rfl

/-- Removing an entry leaves the entries of the other resources. -/
theorem State.entry?_removeEntry (s : State) (r r' : Resource) :
    (s.removeEntry r).entry? r' = if r' = r then none else s.entry? r' := by
  unfold State.entry? ClaimEngine.entry? State.removeEntry
  rw [List.find?_filter]
  split
  · rename_i h
    simp only [List.find?_eq_none]
    intro e _
    simp [h]
  · rename_i h
    congr 1
    funext e
    by_cases he : e.resource = r' <;> simp [he, h]

/-- Re-send due "now" leaves the entry with its re-send due absent and a re-send, or the request that waited, unsent. -/
theorem State.entry?_resendNow (s : State) (r r' : Resource) :
    (s.resendNow r).entry? r' =
      if r' = r then (s.entry? r').map fun e =>
        { e with resendDue := none, slot := { e.slot with unsent := some (e.slot.unsent.getD .resend) } }
      else s.entry? r' := by
  unfold State.resendNow State.placeResend
  rw [State.entry?_modifyEntry _ _ _ _ (fun _ => by rfl)]
  simp only [if_true]
  cases he : s.entry? r with
  | none =>
    simp only [Option.map_none]
    rw [State.entry?_modifyEntry _ _ _ _ (fun _ => by rfl)]
    split
    · rename_i h; subst h; simp [he]
    · rfl
  | some e =>
    simp only [Option.map_some]
    split
    · rename_i hs
      rw [State.entry?_modifyEntry _ _ _ _ (fun _ => by rfl), State.entry?_modifyEntry _ _ _ _ (fun _ => by rfl)]
      split
      · rename_i h; subst h
        obtain ⟨q, hq⟩ := Option.isSome_iff_exists.mp hs
        simp only [he, Option.map_some, hq, Option.getD_some]
        rw [← hq]
      · rfl
    · rename_i hs
      rw [State.entry?_placeRequest, State.entry?_modifyEntry _ _ _ _ (fun _ => by rfl),
        State.entry?_modifyEntry _ _ _ _ (fun _ => by rfl)]
      split
      · rename_i h; subst h
        have hq : e.slot.unsent = none := by simpa using hs
        simp [he, hq]
      · rfl

/-- What `await` does to the entry of its resource (R28, R29, R19). -/
def ClaimEntry.awaits (x : Station) (e : ClaimEntry) : ClaimEntry :=
  if e.state = .wanted then
    if e.announced then
      { e with awaiting := insertStation x e.awaiting, resendDue := none,
               slot := { e.slot with unsent := some (e.slot.unsent.getD .resend) } }
    else { e with awaiting := insertStation x e.awaiting }
  else e

/-- `await` changes the entry of its resource and no other. -/
theorem State.entry?_await (s : State) (r r' : Resource) (x : Station) :
    (s.await r x).entry? r' = if r' = r then (s.entry? r').map (ClaimEntry.awaits x) else s.entry? r' := by
  unfold State.await
  cases he : s.entry? r with
  | none =>
    simp only
    split
    · rename_i h; subst h; simp [he]
    · rfl
  | some e =>
    simp only
    split
    · rename_i hw
      split
      · rename_i ha
        rw [State.entry?_resendNow, State.entry?_modifyEntry _ _ _ _ (fun _ => by rfl)]
        split
        · rename_i h; subst h; simp [he, ClaimEntry.awaits, hw, ha]
        · rfl
      · rename_i ha
        rw [State.entry?_modifyEntry _ _ _ _ (fun _ => by rfl)]
        split
        · rename_i h; subst h; simp [he, ClaimEntry.awaits, hw, ha]
        · rfl
    · rename_i hw
      split
      · rename_i h; subst h; simp [he, ClaimEntry.awaits, hw]
      · rfl

end Sys2Proof.Machine
end

