-- ==== Sys2Proof/Laws/Expiry.lean ====
section
/-! SUPPORT. What a LOSS takes, and what forgetting the HOLDs that met a loss leaves alone. -/

namespace Sys2Proof.Machine

/-! ## Forgetting the HOLDs that met a loss -/

@[simp] theorem State.forgetMet_session (s : State) : s.forgetMet.session = s.session := rfl
@[simp] theorem State.forgetMet_claims (s : State) : s.forgetMet.claims = s.claims := rfl
@[simp] theorem State.forgetMet_answers (s : State) : s.forgetMet.answers = s.answers := rfl
@[simp] theorem State.forgetMet_view (s : State) : s.forgetMet.view = s.view := rfl
@[simp] theorem State.forgetMet_line (s : State) : s.forgetMet.line = s.line := rfl
@[simp] theorem State.forgetMet_scheduler (s : State) : s.forgetMet.scheduler = s.scheduler := rfl
@[simp] theorem State.forgetMet_standing (s : State) : s.forgetMet.standing = s.standing := rfl
@[simp] theorem State.forgetMet_notices (s : State) : s.forgetMet.notices = s.notices := rfl
@[simp] theorem State.forgetMet_link (s : State) : s.forgetMet.link = s.link := rfl
@[simp] theorem State.forgetMet_pending (s : State) : s.forgetMet.pending = s.pending := rfl
@[simp] theorem State.forgetMet_config (s : State) : s.forgetMet.config = s.config := rfl
@[simp] theorem State.forgetMet_roster (s : State) : s.forgetMet.roster = s.roster.map Member.forgetMet := rfl

/-- Where no HOLD is noted there is nothing to forget. -/
theorem State.forgetMet_of_none {s : State} (h : ∀ m ∈ s.roster, m.lossMet = none) : s.forgetMet = s := by
  have same : s.roster.map Member.forgetMet = s.roster := by
    conv_rhs => rw [← List.map_id s.roster]
    apply List.map_congr_left
    intro m hm
    have := h m hm
    cases m
    simp_all [Member.forgetMet]
  unfold State.forgetMet
  rw [same]

/-! ## The member that a LOSS takes -/

/-- A due loss comes first, the lowest-numbered member's. -/
theorem State.lossStep_due {s : State} {before after : List Member} {m : Member} (hr : s.roster = before ++ m :: after)
    (due : m.lossDue = true) (first : ∀ x ∈ before, x.lossDue = false) : s.lossStep = s.loseMember m := by
  have h : s.roster.find? Member.lossDue = some m := by
    rw [hr, List.find?_append, List.find?_eq_none.mpr fun x hx => by simp [first x hx]]
    simp [due]
  simp [State.lossStep, h]

/-- With no loss due, the view entry where the lowest-numbered member's HOLD met its loss. -/
theorem State.lossStep_met {s : State} {before after : List Member} {m : Member} {r : Resource}
    (hr : s.roster = before ++ m :: after) (met : m.lossMet = some r) (noneDue : ∀ x ∈ s.roster, x.lossDue = false)
    (first : ∀ x ∈ before, x.lossMet = none) : s.lossStep = s.dropMetHold m.station r := by
  have hd : s.roster.find? Member.lossDue = none := List.find?_eq_none.mpr fun x hx => by simp [noneDue x hx]
  have hm : s.metLoss? = some (m.station, r) := by
    rw [State.metLoss?, hr, List.findSome?_append, List.findSome?_eq_none_iff.mpr fun x hx => by simp [first x hx]]
    simp [met]
  simp [State.lossStep, hd, hm]

/-- With none due and none met there is no loss. -/
theorem State.lossStep_of_none {s : State} (h : ∀ x ∈ s.roster, x.lossDue = false ∧ x.lossMet = none) : s.lossStep = s := by
  have due : s.roster.find? Member.lossDue = none := List.find?_eq_none.mpr fun x hx => by simp [(h x hx).1]
  have met : s.metLoss? = none := List.findSome?_eq_none_iff.mpr fun x hx => by simp [(h x hx).2]
  simp [State.lossStep, due, met]

/-- Dropping a hold that met a loss changes one view entry, its member's note and the notices alone. -/
theorem State.dropMetHold_eq (s : State) (x : Station) (r : Resource) :
    s.dropMetHold x r = { s with
      roster := s.roster.map fun m => if m.station = x then { m with lossMet := none } else m
      view := dropAt r (Holder.isPeer x) s.view
      notices := (viewNotices [] s.viewWatch 0 s.view (dropAt r (Holder.isPeer x) s.view)).foldl NoticeQueue.give s.notices } :=
  rfl

end Sys2Proof.Machine
end

