-- ==== Sys2Proof/Laws/Host.lean ====
section
/-! SUPPORT. A host command whose check byte can complete is its owner's answer, kept by the Link Port: one lemma for each of
the thirteen, so that a statement about one needs only the value of its owner's function. -/

namespace Sys2Proof.Machine

/-- A ready command is one that `linkReady` admits. -/
theorem State.Ready.linkReady {s : State} {c : Instr} (h : s.Ready c) : s.linkReady (linkFrame c) = true := by
  obtain ⟨h1, h2⟩ := h
  unfold State.linkReady
  by_cases hp : s.link.phase = .command
  · rcases h2 hp with h | h <;> simp [h1, h]
  · simp [h1, hp]

/-- What a taken command leaves when its owner answers `t` and `r` and has not touched the Link Port. -/
theorem takeCommand_eq {s t : State} {r : Response} (c : Instr) (run : State → State × Response)
    (h : run s = (t, r)) (hl : t.link = s.link) :
    s.takeCommand (linkFrame c) run = { t with link := s.link.after c r } := by
  simp only [State.takeCommand, h, hl]
  rfl

theorem exec_configure_ready (a : ConfigureArgs) {s t : State} {r : Response} (h : s.Ready (.configure a)) (hr : hostConfigure a s = (t, r))
    (hl : t.link = s.link) : exec (.configure a) s = .next { t with link := s.link.after (.configure a) r } := by
  simp only [exec, execConfigure, State.hostStep, h.linkReady, if_true]
  rw [takeCommand_eq (.configure a) _ hr hl]

theorem exec_start_ready {s t : State} {r : Response} (h : s.Ready .start) (hr : hostStart s = (t, r))
    (hl : t.link = s.link) : exec .start s = .next { t with link := s.link.after .start r } := by
  simp only [exec, execStart, State.hostStep, h.linkReady, if_true]
  rw [takeCommand_eq .start _ hr hl]

theorem exec_leave_ready {s t : State} {r : Response} (h : s.Ready .leave) (hr : hostLeave s = (t, r))
    (hl : t.link = s.link) : exec .leave s = .next { t with link := s.link.after .leave r } := by
  simp only [exec, execLeave, State.hostStep, h.linkReady, if_true]
  rw [takeCommand_eq .leave _ hr hl]

theorem exec_claim_ready (x p : BitVec 16) {s t : State} {r : Response} (h : s.Ready (.claim x p)) (hr : hostClaim x p s = (t, r))
    (hl : t.link = s.link) : exec (.claim x p) s = .next { t with link := s.link.after (.claim x p) r } := by
  simp only [exec, execClaim, State.hostStep, h.linkReady, if_true]
  rw [takeCommand_eq (.claim x p) _ hr hl]

theorem exec_release_ready (x : BitVec 16) {s t : State} {r : Response} (h : s.Ready (.release x)) (hr : hostRelease x s = (t, r))
    (hl : t.link = s.link) : exec (.release x) s = .next { t with link := s.link.after (.release x) r } := by
  simp only [exec, execRelease, State.hostStep, h.linkReady, if_true]
  rw [takeCommand_eq (.release x) _ hr hl]

theorem exec_abandon_ready (x : BitVec 16) {s t : State} {r : Response} (h : s.Ready (.abandon x)) (hr : hostAbandon x s = (t, r))
    (hl : t.link = s.link) : exec (.abandon x) s = .next { t with link := s.link.after (.abandon x) r } := by
  simp only [exec, execAbandon, State.hostStep, h.linkReady, if_true]
  rw [takeCommand_eq (.abandon x) _ hr hl]

theorem exec_query_ready (x : BitVec 16) {s t : State} {r : Response} (h : s.Ready (.query x)) (hr : hostQuery x s = (t, r))
    (hl : t.link = s.link) : exec (.query x) s = .next { t with link := s.link.after (.query x) r } := by
  simp only [exec, execQuery, State.hostStep, h.linkReady, if_true]
  rw [takeCommand_eq (.query x) _ hr hl]

theorem exec_roster_ready {s t : State} {r : Response} (h : s.Ready .roster) (hr : hostRoster s = (t, r))
    (hl : t.link = s.link) : exec .roster s = .next { t with link := s.link.after .roster r } := by
  simp only [exec, execRoster, State.hostStep, h.linkReady, if_true]
  rw [takeCommand_eq .roster _ hr hl]

theorem exec_peer_ready (b : Byte) {s t : State} {r : Response} (h : s.Ready (.peer b)) (hr : hostPeer b s = (t, r))
    (hl : t.link = s.link) : exec (.peer b) s = .next { t with link := s.link.after (.peer b) r } := by
  simp only [exec, execPeer, State.hostStep, h.linkReady, if_true]
  rw [takeCommand_eq (.peer b) _ hr hl]

theorem exec_fetch_ready {s t : State} {r : Response} (h : s.Ready .fetch) (hr : hostFetch s = (t, r))
    (hl : t.link = s.link) : exec .fetch s = .next { t with link := s.link.after .fetch r } := by
  simp only [exec, execFetch, State.hostStep, h.linkReady, if_true]
  rw [takeCommand_eq .fetch _ hr hl]

theorem exec_dismiss_ready (b : Byte) {s t : State} {r : Response} (h : s.Ready (.dismiss b)) (hr : hostDismiss b s = (t, r))
    (hl : t.link = s.link) : exec (.dismiss b) s = .next { t with link := s.link.after (.dismiss b) r } := by
  simp only [exec, execDismiss, State.hostStep, h.linkReady, if_true]
  rw [takeCommand_eq (.dismiss b) _ hr hl]

theorem exec_status_ready {s t : State} {r : Response} (h : s.Ready .status) (hr : hostStatus s = (t, r))
    (hl : t.link = s.link) : exec .status s = .next { t with link := s.link.after .status r } := by
  simp only [exec, execStatus, State.hostStep, h.linkReady, if_true]
  rw [takeCommand_eq .status _ hr hl]

end Sys2Proof.Machine
end

