-- ==== Sys2Proof/Laws/Notices.lean ====
section
/-! SUPPORT. Giving notices keeps the laws of the notice queue (R162, R165, R166, R174). -/

namespace Sys2Proof.Machine

/-- A record entered at the tail continues the numbering. -/
theorem Numbered.append {l : List Notice} {next : NoticeNumber} (h : Numbered l next) (b : NoticeBody) :
    Numbered (l ++ [{ number := next, body := b }]) (next + 1) := by
  induction l with
  | nil => exact ⟨rfl, trivial⟩
  | cons n rest ih =>
    obtain ⟨h1, h2⟩ := h
    refine ⟨?_, ih h2⟩
    rw [← h1]
    ext
    simp [Fin.val_add, Fin.ofNat]
    omega

/-- Entering a notice keeps the numbering. -/
theorem NoticeQueue.numbered_enter {q : NoticeQueue} (h : Numbered q.queue q.next) (b : NoticeBody) :
    Numbered (q.enter b).queue (q.enter b).next := h.append b

/-- Giving one notice keeps the laws. -/
theorem NoticeQueue.Lawful.give {q : NoticeQueue} (h : q.Lawful) (b : NoticeBody) : (q.give b).Lawful := by
  unfold NoticeQueue.give
  split
  · rename_i hlt
    have hlt' : q.queue.length < 32 := hlt
    refine ⟨?_, h.numbered.append b, ?_, ?_, h.stationsAscend, h.resourcesAscend⟩
    · simp [NoticeQueue.enter]; omega
    · intro hm
      have := h.marksNeedFull hm
      omega
    · simp [NoticeQueue.enter]
  · rename_i hge
    have hfull : q.queue.length = 32 := Nat.le_antisymm h.bounded (Nat.le_of_not_lt hge)
    cases b.subject with
    | session => exact ⟨h.bounded, h.numbered, fun _ => hfull, h.attnFollows, h.stationsAscend, h.resourcesAscend⟩
    | station x =>
      exact ⟨h.bounded, h.numbered, fun _ => hfull, h.attnFollows, h.stationsAscend.insertAsc x, h.resourcesAscend⟩
    | resource r =>
      exact ⟨h.bounded, h.numbered, fun _ => hfull, h.attnFollows, h.stationsAscend, h.resourcesAscend.insertAsc r⟩

/-- Giving the notices of an event keeps the laws. -/
theorem NoticeQueue.Lawful.giveAll {q : NoticeQueue} (h : q.Lawful) (bs : List NoticeBody) :
    (bs.foldl NoticeQueue.give q).Lawful := by
  induction bs generalizing q with
  | nil => exact h
  | cons b bs ih => exact ih (h.give b)

end Sys2Proof.Machine
end

