-- ==== Sys2Proof/Laws/PerInstr.lean ====
section
/-! SUPPORT. Statements made for one command at a time: the link frame of each (R178, R191). -/

namespace Sys2Proof.Laws.LinkFrame

open Sys2Proof.Machine

/-- The command has no link frame, or its frame is whole: its length byte declares exactly its argument bytes (R178). -/
def Statement (c : Instr) : Prop := linkFrame c = [] ∨ linkFrameWhole (linkFrame c) = true

theorem configure (a : ConfigureArgs) : Statement (.configure a) := .inr rfl

theorem start : Statement .start := .inr rfl

theorem leave : Statement .leave := .inr rfl

theorem claim (resource : BitVec 16) (patience : BitVec 16) : Statement (.claim resource patience) := .inr rfl

theorem release (resource : BitVec 16) : Statement (.release resource) := .inr rfl

theorem abandon (resource : BitVec 16) : Statement (.abandon resource) := .inr rfl

theorem query (resource : BitVec 16) : Statement (.query resource) := .inr rfl

theorem roster : Statement .roster := .inr rfl

theorem peer (station : Byte) : Statement (.peer station) := .inr rfl

theorem fetch : Statement .fetch := .inr rfl

theorem dismiss (number : Byte) : Statement (.dismiss number) := .inr rfl

theorem status : Statement .status := .inr rfl

theorem repeatLast : Statement .repeatLast := .inr rfl

theorem linkTransactionError (frame : List Byte) (check : Byte) : Statement (.linkTransactionError frame check) := .inl rfl

theorem transactionBegin : Statement .transactionBegin := .inl rfl

theorem transactionEnd : Statement .transactionEnd := .inl rfl

theorem fullReset : Statement .fullReset := .inl rfl

theorem resetRelease (straps : Station) : Statement (.resetRelease straps) := .inl rfl

theorem tick : Statement .tick := .inl rfl

theorem receivePresence (h : Header) (p : Presence) : Statement (.receivePresence h p) := .inl rfl

theorem receiveClaim (h : Header) (resource : Resource) (seq : ClaimSeq) (stamp : Clock) : Statement (.receiveClaim h resource seq stamp) := .inl rfl

theorem receiveGrant (h : Header) (target : Station) (resource : Resource) (seq : ClaimSeq) : Statement (.receiveGrant h target resource seq) := .inl rfl

theorem receiveHold (h : Header) (resource : Resource) (seq : ClaimSeq) : Statement (.receiveHold h resource seq) := .inl rfl

theorem receiveFree (h : Header) (resource : Resource) (seq : ClaimSeq) (reason : CloseReason) : Statement (.receiveFree h resource seq reason) := .inl rfl

theorem receiveWithdraw (h : Header) : Statement (.receiveWithdraw h) := .inl rfl

theorem receiveFault (activity : LineFault) : Statement (.receiveFault activity) := .inl rfl

theorem carrierDetected : Statement .carrierDetected := .inl rfl

theorem quietGapElapsed : Statement .quietGapElapsed := .inl rfl

theorem ownSlot : Statement .ownSlot := .inl rfl

theorem sendFault (readBack : ReadBack) : Statement (.sendFault readBack) := .inl rfl

theorem claimFrameComplete : Statement .claimFrameComplete := .inl rfl

theorem claimResendComplete : Statement .claimResendComplete := .inl rfl

theorem holdComplete : Statement .holdComplete := .inl rfl

theorem freeComplete : Statement .freeComplete := .inl rfl

theorem grantComplete : Statement .grantComplete := .inl rfl

theorem presenceComplete : Statement .presenceComplete := .inl rfl

theorem withdrawComplete : Statement .withdrawComplete := .inl rfl

theorem joinWindowEnd : Statement .joinWindowEnd := .inl rfl

theorem ownPresenceLapse : Statement .ownPresenceLapse := .inl rfl

theorem loss : Statement .loss := .inl rfl

theorem patienceExpiry : Statement .patienceExpiry := .inl rfl

theorem resendDue : Statement .resendDue := .inl rfl

theorem presenceDue : Statement .presenceDue := .inl rfl

theorem recoveryQuietSpan : Statement .recoveryQuietSpan := .inl rfl

theorem byteClocked (b : Byte) : Statement (.byteClocked b) := .inl rfl

theorem endOfUncountedActivity : Statement .endOfUncountedActivity := .inl rfl

end Sys2Proof.Laws.LinkFrame
end

