-- ==== Sys2Proof/Laws/Take.lean ====
section
/-! SUPPORT. What the operations of one event (`Take`) do: which parts of the state each leaves alone, and what moving an
entry to HELD, counting an answer and giving the event's notices do to the rest. -/

namespace Sys2Proof.Machine

/-- Two states that agree on everything that counting answers, adding holders and dropping holders leaves alone. -/
structure State.SameBase (s t : State) : Prop where
  session : t.session = s.session
  roster : t.roster = s.roster
  standing : t.standing = s.standing
  notices : t.notices = s.notices
  link : t.link = s.link
  pending : t.pending = s.pending
  clock : t.claims.clock = s.claims.clock
  seq : t.claims.seq = s.claims.seq
  line : s.line.onLine = none → t.line = s.line

theorem State.SameBase.refl (s : State) : s.SameBase s := ⟨rfl, rfl, rfl, rfl, rfl, rfl, rfl, rfl, fun _ => rfl⟩

theorem State.SameBase.trans {s t u : State} (h : s.SameBase t) (k : t.SameBase u) : s.SameBase u :=
  ⟨k.session.trans h.session, k.roster.trans h.roster, k.standing.trans h.standing, k.notices.trans h.notices,
    k.link.trans h.link, k.pending.trans h.pending, k.clock.trans h.clock, k.seq.trans h.seq,
    fun hn => (k.line (by rw [h.line hn]; exact hn)).trans (h.line hn)⟩

/-- With no frame on the line there is none to cut loose. -/
theorem LineInterface.cutLoose_none {l : LineInterface} (h : l.onLine = none) (p : SentFrame → Bool) : l.cutLoose p = l := by
  unfold LineInterface.cutLoose
  rw [h]
  cases l
  simp_all

/-! ## Giving the notices -/

@[simp] theorem Take.finish_session (k : Take) (b : State) (p : Option NoticeBody) :
    (k.finish b p).session = k.state.session := rfl
@[simp] theorem Take.finish_claims (k : Take) (b : State) (p : Option NoticeBody) :
    (k.finish b p).claims = k.state.claims := rfl
@[simp] theorem Take.finish_answers (k : Take) (b : State) (p : Option NoticeBody) :
    (k.finish b p).answers = k.state.answers := rfl
@[simp] theorem Take.finish_roster (k : Take) (b : State) (p : Option NoticeBody) :
    (k.finish b p).roster = k.state.roster := rfl
@[simp] theorem Take.finish_view (k : Take) (b : State) (p : Option NoticeBody) :
    (k.finish b p).view = k.state.view := rfl
@[simp] theorem Take.finish_line (k : Take) (b : State) (p : Option NoticeBody) :
    (k.finish b p).line = k.state.line := rfl
@[simp] theorem Take.finish_scheduler (k : Take) (b : State) (p : Option NoticeBody) :
    (k.finish b p).scheduler = k.state.scheduler := rfl
@[simp] theorem Take.finish_standing (k : Take) (b : State) (p : Option NoticeBody) :
    (k.finish b p).standing = k.state.standing := rfl
@[simp] theorem Take.finish_link (k : Take) (b : State) (p : Option NoticeBody) :
    (k.finish b p).link = k.state.link := rfl
@[simp] theorem Take.finish_pending (k : Take) (b : State) (p : Option NoticeBody) :
    (k.finish b p).pending = k.state.pending := rfl
@[simp] theorem Take.finish_entry? (k : Take) (b : State) (p : Option NoticeBody) (r : Resource) :
    (k.finish b p).entry? r = k.state.entry? r := rfl

@[simp] theorem State.begin_state (s : State) : s.begin.state = s := rfl
@[simp] theorem Take.on_state (k : Take) (f : State → State) : (k.on f).state = f k.state := rfl

/-- Adding a holder changes the view alone, at one entry. -/
theorem Take.addHolder_state (k : Take) (r : Resource) (h : Holder) :
    (k.addHolder r h).state = { k.state with view := k.state.view.set r.val ((viewAt k.state.view r).add h).1 } := rfl

/-- Dropping holders changes the view alone. -/
theorem Take.dropHolders_state (k : Take) (p : Holder → Bool) :
    (k.dropHolders p).state = { k.state with view := dropEverywhere p k.state.view } := rfl

/-! ## View entries after an update -/

/-- The view after one entry has been set. -/
theorem viewAt_set (v : List ViewEntry) (r r' : Resource) (e : ViewEntry) (hv : v.length = 256) :
    viewAt (v.set r.val e) r' = if r' = r then e else viewAt v r' := by
  unfold viewAt
  rw [List.getD_eq_getElem?_getD, List.getD_eq_getElem?_getD, List.getElem?_set]
  by_cases h : r' = r
  · subst h; simp [hv, r'.isLt]
  · have : r.val ≠ r'.val := fun hh => h (Fin.ext hh.symm)
    simp [h, this]

/-- The view after holders have been dropped everywhere. -/
theorem viewAt_dropEverywhere (p : Holder → Bool) (v : List ViewEntry) (r : Resource) :
    viewAt (dropEverywhere p v) r = (viewAt v r).drop p := by
  unfold viewAt dropEverywhere
  rw [List.getD_eq_getElem?_getD, List.getD_eq_getElem?_getD, List.getElem?_map]
  cases v[r.val]? <;> rfl

@[simp] theorem dropEverywhere_length (p : Holder → Bool) (v : List ViewEntry) :
    (dropEverywhere p v).length = v.length := by simp [dropEverywhere]

/-! ## Moving to HELD -/

/-- The move to HELD as it shows in an entry that is ready for it (R18). -/
def ClaimEntry.held (e : ClaimEntry) : ClaimEntry :=
  { e with state := .held, wasHeld := true, patience := none, resendDue := none,
           slot := { e.slot with unsent := some .hold } }

/-- An entry that is not ready is left alone, with everything else. -/
theorem Take.moveToHeld_of_not {k : Take} {r : Resource}
    (h : ∀ e, k.state.entry? r = some e → e.readyToHold = false) : k.moveToHeld r = k := by
  unfold Take.moveToHeld
  cases he : k.state.entry? r with
  | none => rfl
  | some e => simp [h e he]

/-- The move to HELD of an entry that is ready. -/
theorem Take.moveToHeld_ready {k : Take} {r : Resource} {e : ClaimEntry} (he : k.state.entry? r = some e)
    (hr : e.readyToHold = true) :
    k.state.SameBase (k.moveToHeld r).state
      ∧ (k.moveToHeld r).state.claims.table = k.state.claims.table.map (fun x => if x.resource = r then x.held else x)
      ∧ (k.moveToHeld r).state.answers = k.state.answers.filter (fun g => g.resource != r)
      ∧ (k.moveToHeld r).state.scheduler =
          { k.state.scheduler with order := k.state.scheduler.order.filter (· != .entry r) ++ [.entry r] }
      ∧ (k.moveToHeld r).state.view = k.state.view.set r.val ((viewAt k.state.view r).add (.own e.seq)).1 := by
  unfold Take.moveToHeld
  simp only [he, hr, if_true]
  refine ⟨⟨rfl, rfl, rfl, rfl, rfl, rfl, rfl, rfl, ?_⟩, ?_, rfl, rfl, rfl⟩
  · intro hn
    exact LineInterface.cutLoose_none hn _
  · show ((k.state.modifyEntry r ClaimEntry.becomeHeld).placeRequest r .hold).claims.table = _
    rw [State.placeRequest_table, State.modifyEntry_table, List.map_map]
    apply List.map_congr_left
    intro x _
    by_cases hx : x.resource = r <;> simp [hx, ClaimEntry.becomeHeld, ClaimEntry.held]

/-- Every move to HELD leaves the base of the state. -/
theorem Take.moveToHeld_base (k : Take) (r : Resource) : k.state.SameBase (k.moveToHeld r).state := by
  cases he : k.state.entry? r with
  | none => rw [Take.moveToHeld_of_not (by simp [he])]; exact State.SameBase.refl _
  | some e =>
    by_cases hr : e.readyToHold = true
    · exact (Take.moveToHeld_ready he hr).1
    · rw [Take.moveToHeld_of_not]
      · exact State.SameBase.refl _
      · intro e' he'
        rw [he] at he'; cases he'; simpa using hr

/-- The entries after a move to HELD of a ready entry. -/
theorem Take.entry?_moveToHeld_ready {k : Take} {r : Resource} {e : ClaimEntry} (he : k.state.entry? r = some e)
    (hr : e.readyToHold = true) (r' : Resource) :
    (k.moveToHeld r).state.entry? r' = if r' = r then some e.held else k.state.entry? r' := by
  have h2 := (Take.moveToHeld_ready he hr).2.1
  have : (k.moveToHeld r).state.entry? r' = (k.state.modifyEntry r ClaimEntry.held).entry? r' :=
    State.entry?_congr (by rw [h2]; rfl) r'
  rw [this, State.entry?_modifyEntry _ _ _ _ (fun _ => by rfl)]
  split
  · rename_i h; subst h; simp [he]
  · rfl

/-! ## Counting an answer -/

/-- An answer that the entry does not wait for changes nothing. -/
theorem Take.answered_of_not {k : Take} {r : Resource} {x : Station}
    (h : ∀ e, k.state.entry? r = some e → ¬ e.AwaitsAnswer x) : k.answered r x = k := by
  unfold Take.answered
  cases he : k.state.entry? r with
  | none => rfl
  | some e =>
    have := h e he
    unfold ClaimEntry.AwaitsAnswer at this
    simp only [if_neg this]

/-- Counting an answer leaves the base of the state. -/
theorem Take.answered_base (k : Take) (r : Resource) (x : Station) : k.state.SameBase (k.answered r x).state := by
  unfold Take.answered
  cases he : k.state.entry? r with
  | none => exact State.SameBase.refl _
  | some e =>
    simp only
    split
    · refine State.SameBase.trans ?_ (Take.moveToHeld_base _ r)
      exact ⟨rfl, rfl, rfl, rfl, rfl, rfl, rfl, rfl, fun _ => rfl⟩
    · exact State.SameBase.refl _

/-- An answer that the entry waits for: the entry, the other entries, and what follows from the last answer (R16 to R18,
R45, R100). -/
theorem Take.answered_awaited {k : Take} {r : Resource} {x : Station} {e : ClaimEntry} (he : k.state.entry? r = some e)
    (ha : e.AwaitsAnswer x) :
    (∀ r', (k.answered r x).state.entry? r' = if r' = r then some (e.countAnswer x) else k.state.entry? r')
    ∧ (e.awaiting.filter (· != x) ≠ [] →
        (k.answered r x).state.answers = k.state.answers ∧ (k.answered r x).state.scheduler = k.state.scheduler
        ∧ (k.answered r x).state.view = k.state.view)
    ∧ (e.awaiting.filter (· != x) = [] →
        (k.answered r x).state.answers = k.state.answers.filter (fun g => g.resource != r)
        ∧ (k.answered r x).state.scheduler =
            { k.state.scheduler with order := k.state.scheduler.order.filter (· != .entry r) ++ [.entry r] }
        ∧ (k.answered r x).state.view = k.state.view.set r.val ((viewAt k.state.view r).add (.own e.seq)).1) := by
  obtain ⟨hw, hn, hx⟩ := ha
  let f : ClaimEntry → ClaimEntry := fun y => { y with awaiting := y.awaiting.filter (· != x) }
  let k1 : Take := k.on fun s => s.modifyEntry r f
  have hk : k.answered r x = k1.moveToHeld r := by
    unfold Take.answered
    simp only [he, hw, hn, hx, and_self, if_true]
    rfl
  have hent : ∀ r', k1.state.entry? r' = if r' = r then (k.state.entry? r').map f else k.state.entry? r' :=
    fun r' => State.entry?_modifyEntry _ _ _ _ (fun _ => by rfl)
  have hr1 : k1.state.entry? r = some (f e) := by rw [hent]; simp [he]
  by_cases hl : e.awaiting.filter (· != x) = []
  · have hready : (f e).readyToHold = true := by simp [ClaimEntry.readyToHold, f, hw, hn, hl]
    obtain ⟨_, _, h3, h4, h5⟩ := Take.moveToHeld_ready hr1 hready
    refine ⟨?_, fun h => absurd hl h, fun _ => ?_⟩
    · intro r'
      rw [hk, Take.entry?_moveToHeld_ready hr1 hready]
      split
      · simp only [ClaimEntry.countAnswer, hl, if_true, ClaimEntry.held, f]
      · rename_i h; rw [hent, if_neg h]
    · rw [hk]; exact ⟨h3, h4, h5⟩
  · have hnot : k1.moveToHeld r = k1 := by
      apply Take.moveToHeld_of_not
      intro e' he'
      rw [hr1] at he'; cases he'
      simp only [ClaimEntry.readyToHold, f]
      cases hf : e.awaiting.filter (· != x) with
      | nil => exact absurd hf hl
      | cons a l => simp
    refine ⟨?_, fun _ => ?_, fun h => absurd h hl⟩
    · intro r'
      rw [hk, hnot, hent]
      split
      · rename_i h; subst h; simp only [he, Option.map_some, ClaimEntry.countAnswer, hl, if_false, f]
      · rfl
    · rw [hk, hnot]; exact ⟨rfl, rfl, rfl⟩

end Sys2Proof.Machine
end

