-- ==== Sys2Proof/Laws/Receive.lean ====
section
/-! SUPPORT. A received frame up to its kind: which command it is, when it is taken, and what its first parts leave (R1, R124,
R127, R137, R151). -/

namespace Sys2Proof.Machine

/-- A command that stands for a received frame receives that frame. -/
theorem exec_frameOf {c : Instr} {f : Frame} (h : frameOf c = some f) (s : State) : exec c s = .next (s.receive f) := by
  cases c <;> simp only [frameOf] at h <;> first | (cases h; rfl) | (exact absurd h (by simp))

/-- A receiver that hears takes the span. -/
theorem State.Hearing.spanEnds {s : State} (h : s.Hearing) (take : State → State) : s.spanEnds take = take s := by
  obtain ⟨h1, h2, h3⟩ := h
  simp [State.spanEnds, h1, State.driverActive, h2, h3]

/-- A valid frame is taken in where the receiver hears. -/
theorem State.Hearing.receive {s : State} (h : s.Hearing) {f : Frame} (hf : frameValid f = true) :
    s.receive f = s.takeIn f := by
  simp [State.receive, h.spanEnds, hf]

/-- A frame that is taken further than the clock goes to its parts. -/
theorem State.TakesFrom.receive {s : State} {f : Frame} (h : s.TakesFrom f.header) (hf : frameValid f = true) :
    s.receive f = (s.validFrame f.header).takeParts f := by
  obtain ⟨h1, h2, h3⟩ := h
  rw [h1.receive hf]
  simp [State.takeIn, h2, h3]

/-- The fault counts alone decide what `setCounts` leaves in the Standing Monitor. -/
theorem State.setCounts_standing (s : State) (a b : Nat) :
    (s.setCounts a b).standing =
      { s.standing with sendFaults := a, receiveFaults := b, standing := deriveStanding s.standing.standing a b } := by
  unfold State.setCounts
  dsimp only
  split <;> rfl

/-- `setCounts` gives STANDING when the standing moves. -/
theorem State.setCounts_notices (s : State) (a b : Nat) :
    (s.setCounts a b).notices =
      if deriveStanding s.standing.standing a b = s.standing.standing then s.notices
      else s.notices.give (.standing (deriveStanding s.standing.standing a b) a b) := by
  unfold State.setCounts
  dsimp only
  split <;> rfl

/-- Outside SILENT a valid frame lowers the receive fault count, and the standing follows. -/
theorem State.countValid_standing {s : State} (h : s.session.state ≠ .silent) :
    s.countValid.standing =
      { s.standing with
        receiveFaults := s.standing.receiveFaults - 1
        standing := deriveStanding s.standing.standing s.standing.sendFaults (s.standing.receiveFaults - 1) } := by
  simp [State.countValid, h, State.setCounts_standing]

/-- The first parts of a frame outside SILENT are what every frame does. -/
theorem State.validFrame_took {s : State} (h : Header) (hs : s.session.state ≠ .silent) : s.Took (s.validFrame h) h := by
  have hc := State.countValid_standing (s := { s with line := s.line.frameEnd .rotating h.source }) hs
  refine ⟨?_, ?_, hc, ?_, ?_, ?_, ?_⟩ <;> simp [State.validFrame, takeUp]
  rfl

/-- The first parts leave the claim table, the roster, the answer queue, the view and the slots. -/
theorem State.validFrame_table (s : State) (h : Header) : (s.validFrame h).claims.table = s.claims.table := by
  simp [State.validFrame]

@[simp] theorem State.validFrame_entry? (s : State) (h : Header) (r : Resource) : (s.validFrame h).entry? r = s.entry? r :=
  State.entry?_congr (s.validFrame_table h) r

@[simp] theorem State.validFrame_member? (s : State) (h : Header) (x : Station) :
    (s.validFrame h).member? x = s.member? x := by simp [State.member?]

@[simp] theorem State.validFrame_config (s : State) (h : Header) : (s.validFrame h).config = s.config := by
  simp [State.config]

/-- Operations that leave the base keep what every frame does, when no own frame is on the line. -/
theorem State.Took.base {s t u : State} {h : Header} (ht : s.Took t h) (hb : t.SameBase u) (hn : s.line.onLine = none) :
    s.Took u h := by
  have hl : t.line.onLine = none := by rw [ht.line]; exact hn
  exact ⟨hb.clock.trans ht.clock, (hb.line hl).trans ht.line, hb.standing.trans ht.standing, hb.seq.trans ht.seq, hb.session.trans ht.session, hb.link.trans ht.link,
    hb.pending.trans ht.pending⟩

/-- Giving the event's notices keeps what every frame does. -/
theorem State.Took.finish {s : State} {k : Take} {h : Header} (ht : s.Took k.state h) (b : State)
    (p : Option NoticeBody) : s.Took (k.finish b p) h :=
  ⟨ht.clock, ht.line, ht.standing, ht.seq, ht.session, ht.link, ht.pending⟩

/-! ## The roster event of a frame other than a PRESENCE -/

/-- Where no member has the source's number there is no entry to change. -/
theorem State.modifyMember_of_none {s : State} {x : Station} (h : s.member? x = none) (f : Member → Member) :
    s.modifyMember x f = s := by
  have same : s.roster.map (fun m => if m.station = x then f m else m) = s.roster := by
    conv_rhs => rw [← List.map_id s.roster]
    apply List.map_congr_left
    intro m hm
    have := List.find?_eq_none.mp h m hm
    have hne : m.station ≠ x := by simpa using this
    simp [hne]
  unfold State.modifyMember
  rw [same]

/-- The roster after a frame other than a HOLD has restarted its source's timer, and after a HOLD has. -/
theorem State.modifyMember_restart (s : State) (x : Station) :
    (s.modifyMember x Member.restart).roster = restarted x s.roster
      ∧ ∀ r, (s.modifyMember x (Member.restartByHold r)).roster = restartedByHold x r s.roster := ⟨rfl, fun _ => rfl⟩

/-- A frame that purges nobody restarts its source's silence timer and gives no PEER notice. -/
theorem Take.rosterOther_noPurge {k : Take} {h : Header} (restart : Member → Member) (hn : k.state.NoPurge h) :
    k.rosterOther restart h = (k.on fun s => s.modifyMember h.source restart, none) := by
  unfold Take.rosterOther
  cases hm : k.state.member? h.source with
  | none =>
    simp only
    congr 1
    show k = { k with state := k.state.modifyMember h.source restart }
    rw [State.modifyMember_of_none hm]
  | some m => simp [hn m hm]

/-- A frame of a member with another incarnation purges it and gives PEER(lost). -/
theorem Take.rosterOther_purge {k : Take} {h : Header} {m : Member} (restart : Member → Member)
    (hm : k.state.member? h.source = some m) (hi : m.incarnation ≠ h.incarnation) :
    k.rosterOther restart h = (k.purge h.source, some (.peer h.source .lost m.incarnation)) := by
  simp [Take.rosterOther, hm, hi]

/-- The first parts keep who is a member. -/
theorem State.NoPurge.validFrame {s : State} {h : Header} (hn : s.NoPurge h) : (s.validFrame h).NoPurge h := by
  intro m hm
  exact hn m (by simpa using hm)

end Sys2Proof.Machine
end

