-- ==== Sys2Proof/Laws/Wire.lean ====
section
/-! SUPPORT. The comparison of read-back cells, and what the framing of received cells makes of cells that hold bits:
bits before the start delimiter are passed over, bits after it are gathered up to the first cell that holds none, and
whole bytes come back. -/

namespace Sys2Proof.Machine

/-! ## One cell -/

@[simp] theorem bitOfCell_bitCell (b : Bool) : bitOfCell (bitCell b) = some b := by cases b <;> rfl

@[simp] theorem bitOfCell_heldP : bitOfCell heldP = none := rfl

@[simp] theorem bitOfCell_heldN : bitOfCell heldN = none := rfl

/-- A cell holds a bit exactly when it is that bit's cell. -/
theorem bitOfCell_eq_some {c : LineCell} {b : Bool} : bitOfCell c = some b ↔ c = bitCell b := by
  rcases c with ⟨_ | _ | _, _ | _ | _⟩ <;> cases b <;> decide

theorem bitOfCell_eq_none {c : LineCell} : bitOfCell c = none ↔ ∀ b, c ≠ bitCell b := by
  rcases c with ⟨_ | _ | _, _ | _ | _⟩ <;> decide

/-! ## Bits and the delimiters -/

/-- A bit with a cell after it joins the bits that follow. -/
theorem bitsToEnd_bit (b : Bool) (d : LineCell) (rest : List LineCell) :
    bitsToEnd (bitCell b :: d :: rest) = (bitsToEnd (d :: rest)).map (b :: ·) := by
  rw [bitsToEnd, bitOfCell_bitCell]

/-- Bits are gathered in front of whatever the cells after them give. -/
theorem bitsToEnd_bits (bits : List Bool) (d : LineCell) (rest : List LineCell) :
    bitsToEnd (bits.map bitCell ++ d :: rest) = (bitsToEnd (d :: rest)).map (bits ++ ·) := by
  induction bits with
  | nil => simp
  | cons b bits ih =>
    cases bits with
    | nil => simpa using bitsToEnd_bit b d rest
    | cons b' more =>
      simp only [List.map_cons, List.cons_append] at ih ⊢
      rw [bitsToEnd_bit, ih]
      cases bitsToEnd (d :: rest) <;> rfl

/-- Bits with nothing after them reach no end delimiter. -/
theorem bitsToEnd_onlyBits (bits : List Bool) : bitsToEnd (bits.map bitCell) = none := by
  induction bits with
  | nil => rfl
  | cons b bits ih =>
    cases bits with
    | nil => rfl
    | cons b' more =>
      simp only [List.map_cons] at ih ⊢
      rw [bitsToEnd_bit, ih]
      rfl

@[simp] theorem bitsToEnd_endDelimiter (rest : List LineCell) : bitsToEnd (heldN :: heldP :: rest) = some [] := by
  simp [bitsToEnd]

/-- A cell that holds no bit and begins no end delimiter ends the gathering with nothing. -/
theorem bitsToEnd_violation {c : LineCell} (rest : List LineCell) (bit : bitOfCell c = none)
    (noEnd : c ≠ heldN ∨ rest.head? ≠ some heldP) : bitsToEnd (c :: rest) = none := by
  cases rest with
  | nil => rfl
  | cons d rest =>
    rw [bitsToEnd, bit]
    refine if_neg fun h => ?_
    rcases noEnd with hc | hd
    · exact hc h.1
    · exact hd (congrArg some h.2)

/-- Bits before the start delimiter are passed over. -/
theorem bitsOfSpan_bits (bits : List Bool) (d : LineCell) (rest : List LineCell) :
    bitsOfSpan (bits.map bitCell ++ d :: rest) = bitsOfSpan (d :: rest) := by
  induction bits with
  | nil => rfl
  | cons b bits ih =>
    cases bits with
    | nil => simp [bitsOfSpan]
    | cons b' more =>
      simp only [List.map_cons, List.cons_append] at ih ⊢
      rw [bitsOfSpan, bitOfCell_bitCell]
      exact ih

/-- Bits alone are no frame. -/
theorem bitsOfSpan_onlyBits (bits : List Bool) : bitsOfSpan (bits.map bitCell) = none := by
  induction bits with
  | nil => rfl
  | cons b bits ih =>
    cases bits with
    | nil => rfl
    | cons b' more =>
      simp only [List.map_cons] at ih ⊢
      rw [bitsOfSpan, bitOfCell_bitCell]
      exact ih

@[simp] theorem bitsOfSpan_startDelimiter (rest : List LineCell) : bitsOfSpan (heldP :: heldN :: rest) = bitsToEnd rest := by
  simp [bitsOfSpan]

/-! ## Read-back -/

/-- The comparison ends with the whole frame exactly when the cells read back begin with the cells driven. -/
theorem compareCells_whole (driven read : List LineCell) : compareCells driven read = .whole ↔ driven <+: read := by
  induction driven generalizing read with
  | nil => simp [compareCells]
  | cons d driven ih =>
    cases read with
    | nil => simp [compareCells]
    | cons c read =>
      by_cases h : c = d
      · subst h
        simp [compareCells, ih]
      · have : ¬ d = c := fun hd => h hd.symm
        simp [compareCells, h, this]

/-- It is undecided exactly when the cells read back are a part of the frame's beginning. -/
theorem compareCells_soFar (driven read : List LineCell) :
    compareCells driven read = .soFar ↔ read <+: driven ∧ read ≠ driven := by
  induction driven generalizing read with
  | nil => simp [compareCells]
  | cons d driven ih =>
    cases read with
    | nil => simp [compareCells]
    | cons c read =>
      by_cases h : c = d
      · subst h
        simp [compareCells, ih]
      · simp [compareCells, h]

/-! ## Bytes -/

/-- The bits of a byte give it back. -/
theorem byteOf_ofBits_byteBits (b : Byte) : byteOf (ofBits (byteBits b)) = b := by
  revert b
  decide +kernel

/-- Whole bytes come back from their bits. -/
theorem bytesOfBits_byteBits (bs : List Byte) : bytesOfBits (bs.flatMap byteBits) = some bs := by
  induction bs with
  | nil => rfl
  | cons b bs ih =>
    have cut : bytesOfBits (byteBits b ++ bs.flatMap byteBits)
        = (bytesOfBits (bs.flatMap byteBits)).map (byteOf (ofBits (byteBits b)) :: ·) := rfl
    rw [List.flatMap_cons, cut, ih, byteOf_ofBits_byteBits]
    rfl

end Sys2Proof.Machine
end

