-- ==== Sys2Proof/Tests/Slice0.lean ====
section
/-! SUPPORT. Tests of the model: ill-formed commands, layouts written out from chapter 12, single steps of the chapters'
examples, and for each statement states that meet its hypotheses, clause by clause. -/

namespace Sys2Proof.Tests

-- One test after another: each kernel evaluation would otherwise wait for the earlier ones in a thread of its own.
set_option Elab.async false

open Sys2Proof.Machine

/-! ## States -/

/-- A configuration with groups 4 and 5, P 100 ms, L 5, I 20 ms, watching group 4. -/
def cfg : ConfigRecord :=
  { role := .contender, rate := .kbit500, period := 10, lossLimit := 5, reply := 20, interest := 0x0030, watch := 0x0010 }

/-- Station 4, incarnation 7, in a station state, with nothing else going on. -/
def up (st : StationState) : State :=
  { State.reset with
    session := { SessionController.reset with number := 4, state := st, incarnation := 7, config := some cfg, tick := 1000 } }

/-- The same as an observer. -/
def watcher (st : StationState) : State :=
  { up st with session := { (up st).session with config := some { cfg with role := .observer } } }

/-- A member with interest set {4, 5}. -/
def peer (x : Station) (i : Incarnation) : Member :=
  { station := x, incarnation := i, interest := 0x0030, standing := .sound, heardUs := true, held := [], silence := 0,
    lossDue := false, lossMet := none }

/-- A queued entry. -/
def queued (r : Resource) (q : ClaimSeq) : ClaimEntry := .created r q none 1000

/-- An entry whose first CLAIM request waits. -/
def waiting (r : Resource) (q : ClaimSeq) : ClaimEntry :=
  { queued r q with slot := { onLine := none, unsent := some .firstClaim } }

/-- An announced WANTED entry with stamp 40. -/
def wanted (r : Resource) (q : ClaimSeq) (awaiting : List Station) : ClaimEntry :=
  { queued r q with state := .wanted, stamp := some 40, announced := true, awaiting := awaiting }

/-- A HELD entry with stamp 40. -/
def held (r : Resource) (q : ClaimSeq) : ClaimEntry :=
  { queued r q with state := .held, stamp := some 40, announced := true, wasHeld := true }

/-- A RELEASING entry whose FREE waits. -/
def releasing (r : Resource) (q : ClaimSeq) : ClaimEntry :=
  { held r q with state := .releasing .released, slot := { onLine := none, unsent := some (.free .released) } }

/-- A MEMBER with a roster, a claim table and an answer queue; the view shows the own holds. -/
def busy (table : List ClaimEntry) (answers : List GrantItem) : State :=
  { up .member with
    roster := [peer 2 6, peer 9 5, peer 17 1]
    claims := { clock := 50, seq := 12, table := table }
    answers := answers
    scheduler := { SendScheduler.reset with
      order := (table.filter fun e => e.slot.unsent.isSome).map fun e => .entry e.resource }
    view := (table.filter ClaimEntry.showsHeld).foldl (fun v e => v.set e.resource.val (.held (.own e.seq)))
      (List.replicate 256 .free) }

/-- One entry of each state, and a GRANT. -/
def full : State :=
  busy [waiting 64 9, wanted 65 10 [2, 9], held 66 11, releasing 67 12] [{ target := 17, resource := 70, seq := 21 }]

/-- A header from station `x`. -/
def from_ (x : Station) (i : Incarnation) (clock : Clock) : Header := { source := x, incarnation := i, clock := clock }

/-- A PRESENCE that hears station 4, incarnation 7. -/
def saying (held : List Resource) : Presence :=
  { interest := 0x0030, standing := .sound, heard := [(4, 7)], held := held }

/-- An own frame on the line. -/
def sends (s : State) (kind : SentKind) (body : Body) : State :=
  { s with line := { s.line with
      onLine := some { kind := kind, frame := { header := s.ownHeader, body := body }, slot := 4, live := true } } }

/-- The state that a command leaves. -/
def after (c : Instr) (s : State) : State :=
  match exec c s with
  | .next t => t
  | .fault _ | .refused _ => s

/-- The status of the last taken command. -/
def statusAfter (c : Instr) (s : State) : Option Status := (after c s).link.record.map fun k => k.response.status

/-- What the notices say after a command. -/
def saysAfter (c : Instr) (s : State) : List NoticeBody := (after c s).notices.queue.map fun n => n.body

/-- The entry's state after a command. -/
def entryAfter (r : Resource) (c : Instr) (s : State) : Option ClaimState := ((after c s).entry? r).map fun e => e.state

/-! ## Ill-formed commands -/

def heardOf (n : Nat) : List (Station × Incarnation) := (List.range n).map fun i => (Fin.ofNat 32 i, 0)

def heldOf (n : Nat) : List Resource := (List.range n).map fun i => Fin.ofNat 256 i

theorem test_wellFormed_longest_presence :
    (Instr.receivePresence (from_ 9 5 0) { saying (heldOf 16) with heard := heardOf 31 }).wellFormed = true := by decide

theorem test_illFormed_heard_list_too_long :
    (Instr.receivePresence (from_ 9 5 0) { saying [] with heard := heardOf 32 }).wellFormed = false := by decide

theorem test_illFormed_held_list_too_long :
    (Instr.receivePresence (from_ 9 5 0) (saying (heldOf 17))).wellFormed = false := by decide

theorem test_illFormed_no_group :
    (Instr.receivePresence (from_ 9 5 0) { saying [] with interest := 0 }).wellFormed = false := by decide

theorem test_illFormed_heard_list_out_of_order :
    (Instr.receivePresence (from_ 9 5 0) { saying [] with heard := [(9, 1), (9, 2)] }).wellFormed = false := by decide

theorem test_illFormed_held_list_out_of_order :
    (Instr.receivePresence (from_ 9 5 0) (saying [67, 66])).wellFormed = false := by decide

theorem test_illFormed_link_frame_length :
    (Instr.linkTransactionError [0x0B, 0x01] 0).wellFormed = false ∧ (Instr.linkTransactionError [0x0B] 0).wellFormed = false
      ∧ (Instr.linkTransactionError [0x0B, 0x01, 0x05] 0).wellFormed = true := by decide

/-! ## Layouts (chapter 12) -/

/-- The check value of CRC-8 with polynomial 0x07 and start 0x00 over the digits 1 to 9. -/
theorem test_crc8_check_value : crc8 [0x31, 0x32, 0x33, 0x34, 0x35, 0x36, 0x37, 0x38, 0x39] = 0xF4 := by decide +kernel

/-- The check value of CRC-16 with polynomial 0x1021 and start 0xFFFF over the digits 1 to 9. -/
theorem test_crc16_check_value : crc16 [0x31, 0x32, 0x33, 0x34, 0x35, 0x36, 0x37, 0x38, 0x39] = 0x29B1 := by
  decide +kernel

theorem test_link_frames_of_the_commands :
    linkFrame (.claim 66 500) = [0x04, 0x04, 0x00, 0x42, 0x01, 0xF4] ∧ linkFrame .status = [0x0C, 0x00]
      ∧ linkFrame (.dismiss 200) = [0x0B, 0x01, 0xC8]
      ∧ linkFrame (.configure { role := 0, rate := 2, period := 10, lossLimit := 5, reply := 20, interest := 0x0030,
                                watch := 0x0010 })
        = [0x01, 0x09, 0x00, 0x02, 0x0A, 0x05, 0x14, 0x00, 0x30, 0x00, 0x10] := by decide +kernel

theorem test_frame_layouts :
    payloadBytes { header := from_ 9 5 0x010203040506, body := .claim 66 3 47 }
        = [0x49, 0x05, 0x01, 0x02, 0x03, 0x04, 0x05, 0x06, 0x42, 0x03, 0, 0, 0, 0, 0, 47]
      ∧ payloadBytes { header := from_ 4 7 1, body := .grant 17 70 21 }
        = [0x64, 0x07, 0, 0, 0, 0, 0, 1, 0x11, 0x46, 0x15]
      ∧ payloadBytes { header := from_ 31 0 0, body := .withdraw } = [0xDF, 0, 0, 0, 0, 0, 0, 0]
      ∧ payloadBytes { header := from_ 4 7 1, body := .presence (saying [66]) }
        = [0x24, 0x07, 0, 0, 0, 0, 0, 1, 0x00, 0x30, 0x00, 0x01, 0x01, 0x04, 0x07, 0x42] := by decide +kernel

theorem test_frame_bytes_are_checked :
    frameOfBytes (frameBytes { header := from_ 9 5 40, body := .free 66 3 .released })
        = some { header := from_ 9 5 40, body := .free 66 3 .released }
      ∧ frameOfBytes ((payloadBytes { header := from_ 9 5 40, body := .withdraw }) ++ [0, 0]) = none := by decide +kernel

theorem test_frame_cells :
    (frameCells { header := from_ 9 5 40, body := .withdraw }).length = 16 + 2 + 80 + 2
      ∧ (frameCells { header := from_ 9 5 40, body := .withdraw }).take 20 = preambleCells
        ++ [heldP, heldN, bitCell true, bitCell true] := by decide +kernel

/-- The levels of R133, and spans of activity: no preamble, cells before and after the frame, no start delimiter, a violation
where the end delimiter should be, a line that falls quiet, and bits that are no whole number of bytes. -/
theorem test_received_cells :
    bitCell true = { first := .pAbove, second := .nAbove } ∧ bitCell false = { first := .nAbove, second := .pAbove }
      ∧ bitOfCell { first := .unusable, second := .nAbove } = none
      ∧ (let byte := [true, false, false, false, false, false, true, false].map bitCell
         framedBytes (startDelimiter ++ byte ++ endDelimiter) = some [0x82]
           ∧ framedBytes (preambleCells ++ startDelimiter ++ byte ++ endDelimiter ++ [heldP]) = some [0x82]
           ∧ framedBytes (preambleCells ++ byte ++ endDelimiter) = none
           ∧ framedBytes (startDelimiter ++ byte ++ startDelimiter) = none
           ∧ framedBytes (startDelimiter ++ byte) = none
           ∧ framedBytes (startDelimiter ++ byte ++ [bitCell true] ++ endDelimiter) = none) := by decide +kernel

/-- The example of chapter 7: the own slot of station 4 over the four frames, and station 4's slot start. -/
theorem test_rotation_example :
    ownSlotOf .rotating 9 4 = 26 ∧ ownSlotOf .rotating 17 4 = 18 ∧ ownSlotOf .rotating 2 4 = 1
      ∧ ownSlotOf .rotating 4 4 = 31 ∧ slotStartBits 1 = 16 ∧ ownSlotOf .rotating 9 17 = 7 ∧ slotStartBits 7 = 40 := by
  decide

/-- The example of R4: stamp 40 at station 7. -/
theorem test_priority_example :
    outranks 41 2 40 7 = false ∧ outranks 40 3 40 7 = true ∧ outranks 39 30 40 7 = true := by decide

/-! ## The step, reset and tick -/

theorem test_step_runs_the_front_command :
    step { up .setup with pending := [.start, .tick] } = exec .start { up .setup with pending := [.tick] } := rfl

theorem test_step_idles_on_an_empty_queue : step (up .member) = .next (up .member) := rfl

theorem test_no_word_spells_a_command : State.reset.withFetchWord 16 0x0C = State.reset := rfl

theorem test_fullReset_then_release :
    (after .fullReset full).session.resetAsserted = true
      ∧ after (.resetRelease 9) (after .fullReset full)
        = { State.reset with session := { SessionController.reset with number := 9 } } := by decide +kernel

/-- A member with timers running and none run out. -/
def ticking : State :=
  let s := busy [{ wanted 65 10 [2] with patience := some 1500, resendDue := some (.atTick 1001) }] []
  { s with session := { s.session with ownPresence := some 399 }, scheduler := { s.scheduler with presenceDue := some 1 } }

theorem test_tick_witness_nothing_due : ticking.session.resetAsserted = false ∧ ticking.NothingDue := by
  refine ⟨rfl, by decide, (fun n h => by cases h; decide), by decide, ?_, ?_, by decide, by decide⟩
  · intro e he d hd
    obtain rfl := List.mem_singleton.mp he
    cases hd
    decide
  · intro e he d hd
    obtain rfl := List.mem_singleton.mp he
    cases hd
    exact ⟨1001, rfl, by decide⟩

/-- The own-presence timer reaches (L − 1) × P, and the PRESENCE due timer runs out. -/
theorem test_tick_advances :
    (after .tick ticking).session.ownPresence = some 400 ∧ (after .tick ticking).session.tick = 1001
      ∧ (after .tick ticking).scheduler.presenceDue = some 0
      ∧ (after .tick ticking).roster.map (·.silence) = [1, 1, 1] := by decide +kernel

/-- A join window that has run out. -/
def windowOver : State := { up .listening with session := { (up .listening).session with joinWindow := some 0 } }

theorem test_tick_witness_takes_what_is_left :
    windowOver.session.resetAsserted = false ∧ windowOver.settle.session.resetAsserted = false
      ∧ windowOver.settle.NothingDue := by
  have own : windowOver.settle.session.ownPresence = none := by decide +kernel
  have table : windowOver.settle.claims.table = [] := by decide +kernel
  refine ⟨rfl, by decide +kernel, by decide +kernel, ?_, by decide +kernel, ?_, ?_, by decide +kernel, by decide +kernel⟩
  · intro n h
    rw [own] at h
    cases h
  · intro e he
    rw [table] at he
    cases he
  · intro e he
    rw [table] at he
    cases he

/-- What a tick takes first is the expiries in their order. -/
theorem test_settle_runs_the_expiries : windowOver.settle = windowOver.runAll expiriesInOrder := by decide +kernel

/-! ## Host commands -/

theorem up_ready (st : StationState) (c : Instr) : (up st).Ready c := ⟨rfl, fun h => by cases h⟩

/-- In COMMAND, with the command's own bytes gathered. -/
theorem test_ready_in_command :
    State.Ready { up .member with link := { LinkPort.reset with phase := .command, received := [0x0C, 0x00] } } .status :=
  ⟨rfl, fun _ => .inr rfl⟩

/-- A CONFIGURE in range at both ends, and one step outside at each field. -/
def args : ConfigureArgs :=
  { role := 0, rate := 3, period := 1, lossLimit := 3, reply := 2, interest := 1, watch := 0 }

theorem test_configure_ranges :
    (configureArg args).isSome ∧ (configureArg { args with period := 255, lossLimit := 15, reply := 255 }).isSome
      ∧ (configureArg { args with role := 1, interest := 0 }).isSome
      ∧ [{ args with role := 2 }, { args with rate := 4 }, { args with period := 0 }, { args with lossLimit := 2 },
         { args with lossLimit := 16 }, { args with reply := 1 }, { args with interest := 0 }].map configureArg
        = List.replicate 7 none := by decide

theorem test_configure_statuses :
    [statusAfter (.configure args) (up .member), statusAfter (.configure args) (sends (up .setup) .withdraw .withdraw),
     statusAfter (.configure { args with period := 0 }) (up .setup), statusAfter (.configure args) (up .setup)]
      = [some .wrongState, some .wrongState, some .badValue, some .ok] := by decide +kernel

/-- SETUP with the standing SILENCED. -/
def silenced (st : StationState) : State :=
  { up st with standing := { StandingMonitor.reset with sendFaults := 240, standing := .silenced } }

theorem test_start :
    [statusAfter .start (up .member), statusAfter .start State.reset] = [some .wrongState, some .notConfigured]
      ∧ saysAfter .start (up .setup) = [.session .listening .start none]
      ∧ saysAfter .start (silenced .setup) = [.session .silent .start none]
      ∧ (after .start (up .setup)).session.joinWindow = some 200 := by decide +kernel

theorem test_leave :
    saysAfter .leave full = [.closed 64 .abandoned (some .leave), .closed 65 .abandoned (some .leave),
        .closed 66 .released (some .leave), .closed 67 .released (some .leave), .session .leaving .leave none]
      ∧ (after .leave full).scheduler.order = [.withdraw]
      ∧ saysAfter .leave (up .announcing) = [.session .setup .leave none]
      ∧ statusAfter .leave (up .halted) = some .wrongState := by decide +kernel

/-- The four kinds of entry that a session clear meets. -/
theorem test_clearNotice_witness :
    (held 66 11).state = .held ∧ ((releasing 67 12).state = .releasing .released ∧ (releasing 67 12).wasHeld = true)
      ∧ ({ releasing 67 12 with wasHeld := false }).wasHeld = false ∧ (queued 64 9).state = .queued := by decide

/-- Sixteen entries, from resource 80 up. -/
def crowded : State := busy ((List.range 16).map fun i => waiting (Fin.ofNat 256 (80 + i)) 0) []

theorem test_claim_checks :
    [statusAfter (.claim 66 0) (up .announcing), statusAfter (.claim 66 0) (watcher .observing),
     statusAfter (.claim 256 0) full, statusAfter (.claim 255 0) full, statusAfter (.claim 63 0) full,
     statusAfter (.claim 68 0) { full with standing := { full.standing with standing := .impaired } },
     statusAfter (.claim 68 0) { full with claims := { full.claims with clock := Config.clockTop } },
     statusAfter (.claim 66 0) full, statusAfter (.claim 68 0) crowded]
      = [some .wrongState, some .role, some .badValue, some .notInterested, some .notInterested, some .impaired,
         some .exhausted, some .duplicate, some .tableFull] := by decide +kernel

/-- The example of chapter 10: sequence counter at 12, patience 500 ms. -/
theorem test_claim_creates :
    (after (.claim 95 500) full).link.response = [0x00, 0x01, 13, crc8 [0x00, 0x01, 13]]
      ∧ ((after (.claim 95 500) full).entry? 95).map (·.patience) = some (some 1500)
      ∧ ((after (.claim 68 0) full).entry? 68).map (·.patience) = some none
      ∧ (after (.claim 68 0) full).scheduler.order = [.entry 64, .entry 67, .entry 68] := by decide +kernel

theorem test_release :
    [statusAfter (.release 256) full, statusAfter (.release 255) full, statusAfter (.release 64) full,
     statusAfter (.release 65) full, statusAfter (.release 66) full, statusAfter (.release 67) full]
      = [some .badValue, some .noEntry, some .notHeld, some .notHeld, some .ok, some .busy]
      ∧ entryAfter 66 (.release 66) full = some (.releasing .released) := by decide +kernel

theorem test_abandon :
    [statusAfter (.abandon 256) full, statusAfter (.abandon 255) full, statusAfter (.abandon 64) full,
     statusAfter (.abandon 65) full, statusAfter (.abandon 66) full, statusAfter (.abandon 67) full]
      = [some .badValue, some .noEntry, some .ok, some .ok, some .held, some .busy]
      ∧ entryAfter 64 (.abandon 64) full = none
      ∧ entryAfter 65 (.abandon 65) full = some (.releasing .abandoned) := by decide +kernel

theorem test_query :
    statusAfter (.query 256) full = some .badValue
      ∧ (after (.query 255) full).link.record.map (fun k => k.response.data)
        = some [255, 1, 0xFF, 0, 0, 0, 0xFF, 0, 0, 0]
      ∧ (after (.query 65) full).link.record.map (fun k => k.response.data)
        = some ([65, 1, 0xFF, 0, 0, 0, 0xFF, 0, 0, 0] ++ [2, 10, 0, 0, 0, 0, 0, 40, 1, 0, 2, 0]
          ++ [0, 0, 0, 0, 0, 0, 0, 0] ++ [0, 0, 0] ++ [2, 9]) := by decide +kernel

theorem test_roster_and_peer :
    (after .roster (busy [] [])).link.record.map (fun k => k.response.data)
        = some [2, 6, 0, 0x30, 0, 0, 0, 0, 9, 5, 0, 0x30, 0, 0, 0, 0, 17, 1, 0, 0x30, 0, 0, 0, 0]
      ∧ [statusAfter (.peer 32) full, statusAfter (.peer 31) full] = [some .badValue, some .noEntry]
      ∧ (after (.peer 9) full).link.record.map (fun k => k.response.data) = some [9, 5, 0, 0x30, 0, 1, 0, 0, 0] := by
  decide +kernel

/-- The example of chapter 9 before the DISMISS of 200, with the middle of the queue left out. -/
def behind : State :=
  { full with notices :=
    { queue := [{ number := 200, body := .granted 70 }, { number := 201, body := .granted 71 }], next := 202,
      sessionMark := true, stationMarks := [2], resourceMarks := [66], attn := true } }

theorem test_fetch :
    statusAfter .fetch full = some .empty
      ∧ (after .fetch behind).link.record.map (fun k => k.response.data) = some [200, 1, 2, 70, 0, 2, 1] := by
  decide +kernel

theorem test_dismiss :
    statusAfter (.dismiss 200) full = some .empty ∧ statusAfter (.dismiss 201) behind = some .stale
      ∧ saysAfter (.dismiss 200) behind = [.granted 71, .summarySession .member 7 .sound 0 0 4]
      ∧ saysAfter (.dismiss 200) { behind with notices := { behind.notices with sessionMark := false } }
        = [.granted 71, .summaryStation 2 (some { incarnation := 6, standing := .sound, heardUs := true, heldCount := 0 })]
      ∧ saysAfter (.dismiss 200)
          { behind with notices := { behind.notices with sessionMark := false, stationMarks := [] } }
        = [.granted 71, .summaryResource 66 .heldLocal (some .own) none (some { state := .held, seq := 11 })]
      ∧ saysAfter (.dismiss 200)
          { behind with notices := { behind.notices with sessionMark := false, stationMarks := [], resourceMarks := [] } }
        = [.granted 71] := by decide +kernel

theorem test_status :
    full.statusBytes = [3, 0, 4, 7, 0, 0, 0, 0, 0, 0, 0, 0, 0, 0, 0, 50, 4, 1, 0, 2, 2, 10, 5, 20, 0, 0x30, 0, 0x10]
      ∧ State.reset.statusBytes = [0, 0xFF] ++ List.replicate 26 0 := by decide +kernel

theorem test_repeat :
    (after .repeatLast full).link.response = [0x01, 0, crc8 [0x01, 0]]
      ∧ (after .repeatLast (after (.claim 68 0) full)).link.response
        = (Response.mk .ok [0x04, crc8 (linkFrame (.claim 68 0)), 13]).bytes := by decide +kernel

/-! ## The local link -/

theorem test_link_verdicts :
    linkVerdict [0x0C, 0x00] (crc8 [0x0C, 0x00]) = .taken .status
      ∧ linkVerdict [0x0C, 0x00] (crc8 [0x0C, 0x00] + 1) = .error .linkCrc
      ∧ linkVerdict [0x00, 0x00] (crc8 [0x00, 0x00]) = .error .unknownCommand
      ∧ linkVerdict [0x0E, 0x00] (crc8 [0x0E, 0x00]) = .error .unknownCommand
      ∧ linkVerdict [0x0C, 0x01, 0x00] (crc8 [0x0C, 0x01, 0x00]) = .error .badLength := by decide +kernel

theorem test_link_error_answers :
    linkFrameWhole [0x0E, 0x00] = true
      ∧ (after (.linkTransactionError [0x0E, 0x00] (crc8 [0x0E, 0x00])) full).link.response
        = [0x22, 0x00, crc8 [0x22, 0x00]]
      ∧ (after (.linkTransactionError [0x0E, 0x00] (crc8 [0x0E, 0x00])) full).link.record = none := by decide +kernel

/-- A Link Port in a phase. -/
def inPhase (p : LinkPhase) (received : List Byte) : State :=
  { up .setup with link :=
    { LinkPort.reset with selected := true, phase := p, received := received, response := [0x01, 0x00, 0x15] } }

theorem test_selection :
    (up .setup).link.selected = false ∧ (after .fullReset full).link.selected = false
      ∧ (after .transactionBegin (up .setup)).link.phase = .command
      ∧ (after .transactionBegin (after .fullReset full)).link.phase = .idle
      ∧ (inPhase .done []).link.selected = true
      ∧ (after .transactionEnd (inPhase .command [1])).link
        = { LinkPort.reset with response := [0x01, 0x00, 0x15] } := by decide +kernel

/-- Every phase, at the ends of its range. -/
theorem test_byteClocked :
    after (.byteClocked 5) (up .setup) = up .setup
      ∧ linkFrameWhole [0x0C] = false ∧ (after (.byteClocked 0) (inPhase .command [0x0C])).link.received = [0x0C, 0]
      ∧ statusAfter (.byteClocked (crc8 [0x0C, 0x00])) (inPhase .command [0x0C, 0x00]) = some .ok
      ∧ (after (.byteClocked 0) (inPhase (.turnaround 0) [])).link.phase = .turnaround 1
      ∧ (after (.byteClocked 0) (inPhase (.turnaround 1) [])).link.phase = .response 0
      ∧ (after (.byteClocked 0) (inPhase (.response 0) [])).link.sdo = .driven 0x01
      ∧ (after (.byteClocked 0) (inPhase (.response 2) [])).link.phase = .done
      ∧ (after (.byteClocked 0) (inPhase .done [])).link.sdo = .driven 0xFF := by decide +kernel

/-- R192: the flags bytes with every named bit set. -/
theorem test_flags_bytes :
    behind.notices.flagsByte = 1 ∧ behind.statusBytes.getD 19 0 = 3
      ∧ (claimPart 1000 { held 66 11 with patience := some 1500 }).getD 8 0 = 7 := by decide +kernel

/-! ## Received frames -/

theorem full_hears : full.Hearing := ⟨rfl, rfl, by decide⟩

theorem full_takes (x : Station) (i : Incarnation) (t : Clock) (h : x ≠ 4) : full.TakesFrom (from_ x i t) :=
  ⟨full_hears, by decide, h⟩

theorem full_member : full.member? 9 = some (peer 9 5) ∧ full.member? 2 = some (peer 2 6) ∧ full.member? 20 = none := by
  decide +kernel

/-- A member with its own incarnation, and a station that is no member, purge nobody. -/
theorem test_noPurge_witness :
    full.NoPurge (from_ 9 5 60) ∧ full.NoPurge (from_ 20 0 60) := by
  refine ⟨fun m h => ?_, fun m h => ?_⟩
  · rw [show full.member? (from_ 9 5 60).source = some (peer 9 5) from full_member.1] at h
    cases h
    rfl
  · rw [show full.member? (from_ 20 0 60).source = none from full_member.2.2] at h
    cases h

theorem test_clock_take_up :
    frameValid { header := from_ 9 5 60, body := .withdraw } = true
      ∧ (after (.receiveHold (from_ 9 5 60) 70 1) full).claims.clock = 60
      ∧ (after (.receiveHold (from_ 9 5 49) 70 1) full).claims.clock = 50
      ∧ (after (.receiveHold (from_ 9 5 49) 70 1) full).line.base = 9 := by decide +kernel

/-- A valid frame that brings the receive fault count to 119 gives STANDING before the frame's own notices. -/
theorem test_standing_at_a_valid_frame :
    saysAfter (.receiveWithdraw (from_ 9 5 60)) { full with standing :=
        { full.standing with receiveFaults := 120, standing := .impaired } }
      = [.standing .sound 0 119, .peer 9 .left 5] := by decide +kernel

/-- SILENT, with `n` valid frames counted. -/
def recovering (n : Nat) : State :=
  let s := silenced .silent
  { s with standing := { s.standing with recoveryFrames := n, recoveryQuiet := 30 } }

theorem test_silent_frames :
    (recovering 46).Hearing ∧ (recovering 46).session.state = .silent
      ∧ (after (.receiveWithdraw (from_ 9 5 3)) (recovering 46)).standing.recoveryFrames = 47
      ∧ saysAfter (.receiveWithdraw (from_ 9 5 3)) (recovering 47)
        = [.standing .sound 0 0, .session .listening .recovered none] :=
  ⟨⟨rfl, rfl, by decide⟩, rfl, by decide +kernel, by decide +kernel⟩

/-- Before recovery completes SILENT keeps everything but its progress and the clock. -/
theorem test_silent_keeps :
    (recovering 46).standing.recoveryFrames + 1 < 48
      ∧ (after (.receivePresence (from_ 9 5 3) (saying [])) (recovering 46)).roster = []
      ∧ (after (.receivePresence (from_ 9 5 3) (saying [])) (recovering 46)).claims.clock = 3 := by decide +kernel

theorem test_own_number_halts :
    (from_ 4 7 0).source = full.session.number
      ∧ (after (.receiveHold (from_ 4 7 0) 66 1) full).session.state = .halted
      ∧ saysAfter (.receiveHold (from_ 4 7 0) 66 1) full
        = [.closed 64 .abandoned (some .duplicate), .closed 65 .abandoned (some .duplicate), .revoked 66 .duplicate,
           .revoked 67 .duplicate, .session .halted .duplicate none] := by decide +kernel

/-- The receive fault count at 118 and 239. -/
def faulty (n : Nat) : State := { full with standing := { full.standing with receiveFaults := n } }

theorem test_receive_faults :
    frameOfBytes [] = none ∧ frameValid { header := from_ 9 5 0, body := .presence (saying [67, 66]) } = false
      ∧ (after (.receiveFault .cutShort) full).standing.receiveFaults = 2
      ∧ saysAfter (.receiveFault (.bytes [])) (faulty 118) = [.standing .impaired 0 120]
      ∧ (after (.receiveFault .codeViolation) { faulty 239 with standing :=
          { full.standing with receiveFaults := 239, standing := .impaired } }).standing.receiveFaults = 240
      ∧ (after (.receivePresence (from_ 9 5 0) (saying [67, 66])) full).standing.receiveFaults = 2
      ∧ (after (.receiveFault .cutShort) (recovering 40)).standing.recoveryFrames = 0 := by decide +kernel

/-- A wrong CRC-16, an unknown kind and a wrong length are no frame; bits 7 to 5 of a station byte are not read. -/
theorem test_bytes_that_are_no_frame :
    let spelled := fun payload => frameOfBytes (payload ++ crc16Bytes payload)
    frameOfBytes (payloadBytes { header := from_ 9 5 40, body := .hold 66 3 } ++ [0x00, 0x00]) = none
      ∧ spelled [0x09, 5, 0, 0, 0, 0, 0, 40] = none
      ∧ spelled [0x89, 5, 0, 0, 0, 0, 0, 40, 66] = none
      ∧ spelled [0x69, 5, 0, 0, 0, 0, 0, 40, 0xF1, 70, 21] = some { header := from_ 9 5 40, body := .grant 17 70 21 } := by
  decide +kernel

theorem test_received_bytes_act_as_their_frame :
    exec (.receiveFault (.bytes (frameBytes { header := from_ 9 5 60, body := .hold 70 1 }))) (up .member)
      = .next (after (.receiveHold (from_ 9 5 60) 70 1) (up .member)) := by
  have h : after (.receiveFault (.bytes (frameBytes { header := from_ 9 5 60, body := .hold 70 1 }))) (up .member)
      = after (.receiveHold (from_ 9 5 60) 70 1) (up .member) := by decide +kernel
  exact congrArg Host.Outcome.next h

/-- A CLAIM's cells act as that CLAIM; without the last cell they are a receive fault. -/
theorem test_received_cells_act_as_their_frame :
    after (.receiveFault (.cells (frameCells { header := from_ 9 5 60, body := .claim 68 3 47 }))) full
        = after (.receiveClaim (from_ 9 5 60) 68 3 47) full
      ∧ (after (.receiveFault (.cells (frameCells { header := from_ 9 5 60, body := .claim 68 3 47 }).dropLast)) full).standing.receiveFaults
        = 2 := by decide +kernel

/-- The entry for 65 awaits 2 and 9: a GRANT for another sequence, the first answer, and with 2 alone awaited the last. -/
theorem test_grant_witness_counted :
    full.entry? 65 = some (wanted 65 10 [2, 9]) ∧ (wanted 65 10 [2, 9]).AwaitsAnswer 9
      ∧ [9, 2].filter (· != (9 : Station)) ≠ [] ∧ ([9] : List Station).filter (· != 9) = [] :=
  ⟨by decide +kernel, ⟨rfl, rfl, by decide⟩, by decide, by decide⟩

theorem test_grant_received :
    entryAfter 65 (.receiveGrant (from_ 9 5 60) 4 65 11) full = some .wanted
      ∧ ((after (.receiveGrant (from_ 9 5 60) 4 65 10) full).entry? 65).map (·.awaiting) = some [2]
      ∧ entryAfter 65 (.receiveGrant (from_ 9 5 60) 4 65 10) (busy [wanted 65 10 [9]] []) = some .held
      ∧ saysAfter (.receiveGrant (from_ 9 5 60) 4 65 10) (busy [wanted 65 10 [9]] [])
        = [.granted 65, .view 65 .heldLocal (some .own) none] := by decide +kernel

/-- R35 at station 4 against stamp 40: the same stamp from 3 and from 5, and the stamps beside it. -/
theorem test_answer_decision_boundaries :
    answerDecision 4 (some (wanted 65 10 [2])) 40 3 = .grant ∧ answerDecision 4 (some (wanted 65 10 [2])) 40 5 = .defer
      ∧ answerDecision 4 (some (wanted 65 10 [2])) 39 30 = .grant
      ∧ answerDecision 4 (some (wanted 65 10 [2])) 41 0 = .defer ∧ (wanted 65 10 [2]).stamp = some 40 := by decide

/-- An answer queue of `n` GRANTs to station 9. -/
def grants (n : Nat) : List GrantItem := (List.range n).map fun i => { target := 9, resource := Fin.ofNat 256 i, seq := 1 }

theorem test_grant_joins :
    joinAnswers (grants 16) { target := 9, resource := 15, seq := 1 } = some (grants 16)
      ∧ joinAnswers (grants 2) { target := 9, resource := 0, seq := 2 }
        = some [{ target := 9, resource := 1, seq := 1 }, { target := 9, resource := 0, seq := 2 }]
      ∧ (joinAnswers (grants 15) { target := 9, resource := 15, seq := 1 }).map List.length = some 16
      ∧ joinAnswers (grants 16) { target := 2, resource := 15, seq := 1 } = none := by decide

/-- Each condition of R33, and R35's table on the entries of `full`. -/
theorem test_claim_received_answers :
    (after (.receiveClaim (from_ 9 5 60) 63 3 47) full).answers = full.answers
      ∧ (after (.receiveClaim (from_ 20 0 60) 68 3 47) full).answers = full.answers
      ∧ (after (.receiveClaim (from_ 9 5 60) 68 3 47) full).answers
        = full.answers ++ [{ target := 9, resource := 68, seq := 3 }]
      ∧ (after (.receiveClaim (from_ 9 5 60) 68 3 47) (busy [] (grants 16))).answers = grants 16
      ∧ ((after (.receiveClaim (from_ 9 5 60) 66 3 47) full).entry? 66).map (·.waiters)
        = some [{ station := 9, stamp := 47, seq := 3 }]
      ∧ (after (.receiveClaim (from_ 9 5 60) 67 3 47) full).answers
        = full.answers ++ [{ target := 9, resource := 67, seq := 3 }] := by decide +kernel

/-- R37: the same claim again, a new claim of the same station, and a second station, which outranks the first. -/
theorem test_deferral_is_recorded :
    let one : ClaimEntry := { held 66 11 with waiters := [{ station := 9, stamp := 47, seq := 3 }] }
    one.recordWaiter { station := 9, stamp := 47, seq := 3 } = one
      ∧ (one.recordWaiter { station := 9, stamp := 52, seq := 4 }).waiters = [{ station := 9, stamp := 52, seq := 4 }]
      ∧ (one.recordWaiter { station := 2, stamp := 47, seq := 8 }).waiters
        = [{ station := 2, stamp := 47, seq := 8 }, { station := 9, stamp := 47, seq := 3 }]
      ∧ (∀ v ∈ one.waiters, ¬ (v.station = (2 : Station) ∧ v.seq = (8 : ClaimSeq))) ∧ Ascending Waiter.key one.waiters := by
  decide

/-- R39: station 17 is put back into the awaiting set of 65; station 2 is awaited already. -/
theorem test_claim_received_reawaits :
    ((after (.receiveClaim (from_ 17 1 60) 65 3 39) full).entry? 65).map (fun e => (e.awaiting, e.slot.unsent))
        = some ([2, 9, 17], some .resend)
      ∧ ((after (.receiveClaim (from_ 2 6 60) 65 3 39) full).entry? 65).map (fun e => (e.awaiting, e.slot.unsent))
        = some ([2, 9], none) := by decide +kernel

theorem test_hold_received :
    full.view.length = 256
      ∧ viewAt (after (.receiveHold (from_ 20 1 60) 66 5) full).view 66
        = .contested (.own 11) (.peer 20 1 (.hold 5))
      ∧ saysAfter (.receiveHold (from_ 20 1 60) 66 5) full
        = [.conflict 66 (.own 11) (.peer 20 1 (.hold 5)),
           .view 66 .contested (some .own) (some (.peer 20 1))] := by decide +kernel

/-- R101: at a third holder the own record, or else the first, stays. -/
theorem test_third_holder :
    let a := Holder.peer 2 6 .presence
    let b := Holder.peer 9 5 (.hold 3)
    let c := Holder.peer 17 1 (.hold 4)
    (ViewEntry.contested a b).add c = (.contested a c, true)
      ∧ (ViewEntry.contested a (.own 11)).add c = (.contested (.own 11) c, true)
      ∧ (ViewEntry.contested (.own 11) b).add c = (.contested (.own 11) c, true)
      ∧ (ViewEntry.contested a b).add (.peer 9 5 .presence) = (.contested a b, false)
      ∧ (ViewEntry.contested a b).drop (Holder.isPeer 2) = .held b := by decide

/-- `full` with the loss of station 9 due. -/
def lossOfNineDue : State :=
  { full with roster := [peer 2 6, { peer 9 5 with silence := 500, lossDue := true }, peer 17 1] }

/-- R113 and R60: after a HOLD that came first at the loss, a LOSS drops the hold and loses no member; after the next tick, and
after a frame that is no HOLD, it does nothing. LOSS first makes the HOLD one of a non-member. -/
theorem test_hold_meets_a_loss :
    let held := after (.receiveHold (from_ 9 5 60) 70 5) lossOfNineDue
    viewAt held.view 70 = .held (.peer 9 5 (.hold 5))
      ∧ viewAt (after .loss held).view 70 = .free ∧ (after .loss held).member? 9 = some (peer 9 5)
      ∧ saysAfter .loss held = [.view 70 .heldPeer (some (.peer 9 5)) none, .view 70 .free none none]
      ∧ viewAt (after .loss (after .tick held)).view 70 = .held (.peer 9 5 (.hold 5))
      ∧ (after .loss (after .tick held)).member? 9 = some { peer 9 5 with silence := 1 }
      ∧ (after .loss (after (.receiveFree (from_ 9 5 60) 70 5 .released) lossOfNineDue)).member? 9 = some (peer 9 5)
      ∧ viewAt (after (.receiveHold (from_ 9 5 60) 70 5) (after .loss lossOfNineDue)).view 70 = .held (.peer 9 5 (.hold 5)) := by
  decide +kernel

/-- Log 29: a second HOLD before the next tick keeps the note of the first. -/
theorem test_second_hold_keeps_the_note :
    let held := after (.receiveHold (from_ 9 5 61) 71 6) (after (.receiveHold (from_ 9 5 60) 70 5) lossOfNineDue)
    (held.member? 9).map (·.lossMet) = some (some 70)
      ∧ viewAt (after .loss held).view 70 = .free
      ∧ viewAt (after .loss held).view 71 = .held (.peer 9 5 (.hold 6)) := by decide +kernel

theorem test_free_received :
    full.entry? 80 = none
      ∧ ((after (.receiveFree (from_ 9 5 60) 65 77 .released) full).entry? 65).map (·.awaiting) = some [2]
      ∧ entryAfter 65 (.receiveFree (from_ 9 5 60) 65 77 .expired) (busy [wanted 65 10 [9]] []) = some .held
      ∧ (after (.receiveFree (from_ 17 1 60) 70 77 .released) full).answers = [] := by decide +kernel

theorem full_claims : full.ClaimsLawful := by
  refine ⟨by decide +kernel, by decide +kernel, ?_, by decide, by decide⟩
  intro e he
  rcases List.mem_cons.mp he with rfl | he
  · exact ⟨by decide, by decide, by decide, by decide, by decide, by decide⟩
  rcases List.mem_cons.mp he with rfl | he
  · exact ⟨by decide, by decide, by decide, by decide, by decide, by decide⟩
  rcases List.mem_cons.mp he with rfl | he
  · exact ⟨by decide, by decide, by decide, by decide, by decide, by decide⟩
  rcases List.mem_cons.mp he with rfl | he
  · exact ⟨by decide, by decide, by decide, by decide, by decide, by decide⟩
  · cases he

theorem test_withdraw_received :
    saysAfter (.receiveWithdraw (from_ 9 5 60)) full = [.peer 9 .left 5]
      ∧ saysAfter (.receiveWithdraw (from_ 9 6 60)) full = [.peer 9 .lost 5]
      ∧ saysAfter (.receiveWithdraw (from_ 20 6 60)) full = []
      ∧ entryAfter 65 (.receiveWithdraw (from_ 9 5 60)) (busy [wanted 65 10 [9]] []) = some .held := by decide +kernel

/-- The claim of another incarnation: its GRANTs and its place in the awaiting set go, and it is not answered. -/
theorem test_other_incarnation :
    (peer 17 1).incarnation ≠ (from_ 17 2 60).incarnation
      ∧ full.member? 17 = some (peer 17 1)
      ∧ (after (.receiveClaim (from_ 17 2 60) 68 3 47) full).answers = []
      ∧ saysAfter (.receiveClaim (from_ 17 2 60) 68 3 47) full = [.peer 17 .lost 1] := by decide +kernel

/-- What follows the purge: a HOLD is added to the view, and a FREE drops nothing more and is no answer. -/
theorem test_other_incarnation_then_non_member :
    saysAfter (.receiveHold (from_ 9 6 60) 66 5) full
        = [.peer 9 .lost 5, .conflict 66 (.own 11) (.peer 9 6 (.hold 5)),
           .view 66 .contested (some .own) (some (.peer 9 6))]
      ∧ ((after (.receiveFree (from_ 9 6 60) 65 77 .released) full).entry? 65).map (·.awaiting) = some [2]
      ∧ (after (.receiveFree (from_ 9 6 60) 65 77 .released) full).view = full.view := by decide +kernel

/-- R46: a GRANT of the purged member that is on the line runs out, and one of another member does not. -/
theorem test_purge_meets_a_grant_on_the_line :
    let s := sends full .grant (.grant 17 70 21)
    (s.begin.purge 17).state.line.onLine.map (·.live) = some false
      ∧ (s.begin.purge 9).state.line.onLine.map (·.live) = some true := by decide +kernel

/-- Two entries whose last answer is station 9's: the HOLDs and the GRANTED notices go in ascending order of resource. -/
theorem test_purge_completes_in_order :
    let s := busy [wanted 65 10 [9], wanted 80 11 [9]] [{ target := 17, resource := 80, seq := 21 }]
    saysAfter (.receiveWithdraw (from_ 9 5 60)) s
        = [.peer 9 .left 5, .granted 65, .granted 80, .view 65 .heldLocal (some .own) none]
      ∧ (after (.receiveWithdraw (from_ 9 5 60)) s).scheduler.order = [.entry 65, .entry 80]
      ∧ (after (.receiveWithdraw (from_ 9 5 60)) s).answers = []
      ∧ s.completedBy 9 = [65, 80] := by decide +kernel

theorem test_presence_witness :
    (saying []).wellFormed = true ∧ (full.session.number, full.session.incarnation) ∈ (saying []).heard
      ∧ (peer 2 6).interest = (saying []).interest ∧ (peer 2 6).incarnation ≠ (from_ 2 7 60).incarnation := by
  decide +kernel

/-- An admission, a refresh and a renewal. -/
theorem test_presence_received :
    saysAfter (.receivePresence (from_ 20 3 60) (saying [])) full = [.peer 20 .joined 3]
      ∧ ((after (.receivePresence (from_ 20 3 60) (saying [])) full).entry? 65).map (·.awaiting) = some [2, 9, 20]
      ∧ saysAfter (.receivePresence (from_ 2 6 60) (saying [70])) full
        = [.view 70 .heldPeer (some (.peer 2 6)) none]
      ∧ saysAfter (.receivePresence (from_ 2 7 60) (saying [])) full = [.peer 2 .renewed 7]
      ∧ ((after (.receivePresence (from_ 2 7 60) (saying [])) full).entry? 65).map (·.awaiting) = some [2, 9] := by
  decide +kernel

/-- An admission in the join window, and a renewal whose purge half completes a claim, which is not awaited again. -/
theorem test_presence_joins_and_renews :
    (up .listening).TakesFrom (from_ 9 5 60)
      ∧ saysAfter (.receivePresence (from_ 9 5 60) (saying [])) (up .listening) = [.peer 9 .joined 5]
      ∧ (wanted 65 10 [9]).LastAnswer 9
      ∧ ((after (.receivePresence (from_ 9 6 60) (saying [])) (busy [wanted 65 10 [9]] [])).entry? 65).map
        (fun e => (e.state, e.awaiting)) = some (.held, [])
      ∧ saysAfter (.receivePresence (from_ 9 6 60) (saying [])) (busy [wanted 65 10 [9]] [])
        = [.peer 9 .renewed 6, .granted 65, .view 65 .heldLocal (some .own) none] :=
  ⟨⟨⟨rfl, rfl, by decide⟩, by decide, by decide⟩, by decide +kernel, ⟨⟨rfl, rfl, by decide⟩, by decide⟩,
    by decide +kernel, by decide +kernel⟩

theorem test_presence_states_its_holds :
    viewAt (after (.receivePresence (from_ 9 5 60) (saying [66, 70])) full).view 66
        = .contested (.own 11) (.peer 9 5 .presence)
      ∧ viewAt (after (.receivePresence (from_ 9 5 60) (saying [66, 70])) full).view 71 = .free
      ∧ saysAfter (.receivePresence (from_ 9 5 60) (saying [66, 70])) full
        = [.conflict 66 (.own 11) (.peer 9 5 .presence), .view 66 .contested (some .own) (some (.peer 9 5)),
           .view 70 .heldPeer (some (.peer 9 5)) none] := by decide +kernel

/-- LISTENING with every incarnation but one in the heard set. -/
def nearlyAllHeard : State :=
  { up .listening with session := { (up .listening).session with
      incarnation := 255, heardSet := (List.range 255).map (Fin.ofNat 256) } }

/-- The candidate passes over the values 7 to 9 of the heard set. -/
theorem test_candidate_steps_to_the_first_free_value :
    let s := { up .listening with session := { (up .listening).session with heardSet := [8, 9, 11] } }
    (after (.receivePresence (from_ 9 5 60) (saying [])) s).session.incarnation = 10 := by decide +kernel

/-- The report of the last value steps the candidate once; a list without the own number leaves it; and a lapse names the
station that omitted the own one. -/
theorem test_heard_set_fills :
    (insertAsc Fin.val (255 : Incarnation) nearlyAllHeard.session.heardSet).length = 256
      ∧ (after (.receivePresence (from_ 9 5 60) { saying [] with heard := [(4, 255)] }) nearlyAllHeard).session.incarnation = 0
      ∧ (after (.receivePresence (from_ 9 5 60) { saying [] with heard := [(5, 255)] }) nearlyAllHeard).session
        = nearlyAllHeard.session
      ∧ saysAfter (.receivePresence (from_ 9 5 60) { saying [] with heard := [] }) full
        = [.closed 64 .abandoned (some .lapse), .closed 65 .abandoned (some .lapse), .revoked 66 .lapse, .revoked 67 .lapse,
           .session .listening .lapse (some 9)] := by decide +kernel

/-- A list without the own station lapses it; with the own candidate in LISTENING it steps the candidate. -/
theorem test_heard_lists :
    (full.session.number, full.session.incarnation) ∉ ({ saying [] with heard := [(4, 6)] } : Presence).heard
      ∧ (after (.receivePresence (from_ 9 5 60) { saying [] with heard := [(4, 6)] }) full).session.state = .listening
      ∧ (up .listening).TakesFrom (from_ 9 5 60)
      ∧ (insertAsc Fin.val (7 : Incarnation) (up .listening).session.heardSet).length < 256
      ∧ (after (.receivePresence (from_ 9 5 60) (saying [])) (up .listening)).session.incarnation = 8
      ∧ (after (.receivePresence (from_ 9 5 60) { saying [] with heard := [(4, 6)] }) (up .listening)).session.incarnation = 7 :=
  ⟨by decide, by decide +kernel, ⟨⟨rfl, rfl, by decide⟩, by decide, by decide⟩, by decide, by decide +kernel,
    by decide +kernel⟩

/-! ## The line and what is sent -/

/-- A round open in which the own slot has not begun. -/
def inRound (s : State) : State := { s with line := { s.line with phase := .round 0 } }

/-- Activity that began while the receiver did not count it. -/
def uncounted : State := { up .listening with line := { LineInterface.reset with phase := .activity false, roundType := .rotating } }

theorem test_carrier_and_gap :
    (after .carrierDetected (inRound full)).line.phase = .activity true
      ∧ (after .carrierDetected (recovering 3)).standing.recoveryQuiet = 0
      ∧ full.line.phase = .quiet ∧ (after .quietGapElapsed full).line.phase = .round 0
      ∧ uncounted.line.phase = .activity false
      ∧ (after .endOfUncountedActivity uncounted).line.roundType = .fixed := by decide +kernel

/-- Nothing is taken in at an inactive receiver, while the part sends, or at the end of activity that was not counted. -/
theorem test_not_taken_in :
    after (.receiveHold (from_ 9 5 60) 70 5) (up .halted) = up .halted
      ∧ after (.receiveFault .cutShort) (sends full .hold (.hold 66 11)) = sends full .hold (.hold 66 11)
      ∧ (after (.receiveHold (from_ 9 5 60) 70 5) uncounted).claims.clock = 0
      ∧ (after (.receiveFault .cutShort) uncounted).standing = uncounted.standing := by decide +kernel

/-- An own PRESENCE waits too. -/
def due (s : State) : State :=
  { s with scheduler := { s.scheduler with presence := .unsent, order := s.scheduler.order ++ [.presence] } }

/-- The example of chapter 7: three GRANTs go in a row while own frames wait, then the PRESENCE before the claim. -/
theorem test_choice :
    (up .member).choice = none ∧ (busy [waiting 64 9] []).choice = some (.own (.entry 64))
      ∧ (busy [] (grants 1)).choice = some (.answer { target := 9, resource := 0, seq := 1 })
      ∧ (due full).choice = some (.answer { target := 17, resource := 70, seq := 21 })
      ∧ ({ due full with scheduler := { (due full).scheduler with alternation := 2 } }).choice
        = some (.answer { target := 17, resource := 70, seq := 21 })
      ∧ ({ due full with scheduler := { (due full).scheduler with alternation := 3 } }).choice = some (.own .presence) := by
  decide +kernel

theorem test_firstOwn :
    (up .member).firstOwn = none ∧ (due full).firstOwn = some .presence ∧ full.firstOwn = some (.entry 67)
      ∧ ({ full with standing := { full.standing with standing := .impaired } }).firstOwn = some (.entry 67)
      ∧ ({ busy [waiting 64 9] [] with standing := { full.standing with standing := .impaired } }).firstOwn = none := by
  decide +kernel

/-- The six classes of R145, and what holds a first send back. -/
theorem test_classes :
    [SlotName.withdraw, .presence, .entry 67, .entry 64, .entry 66, .entry 80].map (due full).slotClass
        = [none, some 2, some 3, some 5, none, none]
      ∧ (busy [{ held 66 11 with slot := { onLine := none, unsent := some .hold } }] []).slotClass (.entry 66) = some 4
      ∧ (busy [{ wanted 65 10 [2] with slot := { onLine := none, unsent := some .resend } }] []).slotClass (.entry 65) = some 6
      ∧ ({ full with claims := { full.claims with clock := Config.clockTop } }).slotClass (.entry 64) = none
      ∧ ({ full with standing := { full.standing with standing := .impaired } }).slotClass (.entry 64) = none := by
  decide +kernel

/-- The frame that an own slot puts on the line. -/
def sentIn (s : State) : Option (SentKind × Clock × Body) :=
  (after .ownSlot (inRound s)).line.onLine.map fun f => (f.kind, f.frame.header.clock, f.frame.body)

/-- One slot with an unsent request. -/
def asks (q : Request) (e : ClaimEntry) : ClaimEntry := { e with slot := { onLine := none, unsent := some q } }

theorem test_ownSlot_sends :
    sentIn (up .member) = none ∧ sentIn full = some (.grant, 50, .grant 17 70 21)
      ∧ sentIn (busy [waiting 64 9] []) = some (.firstClaim, 51, .claim 64 9 51)
      ∧ sentIn (busy [asks .firstClaim (wanted 65 10 [2])] []) = some (.firstClaim, 50, .claim 65 10 40)
      ∧ sentIn (busy [asks .resend (wanted 65 10 [2])] []) = some (.resend, 50, .claim 65 10 40)
      ∧ sentIn (busy [asks .hold (held 66 11)] []) = some (.hold, 50, .hold 66 11)
      ∧ sentIn (busy [releasing 67 12] []) = some (.free, 50, .free 67 12 .released)
      ∧ sentIn { up .leaving with scheduler := { SendScheduler.reset with withdraw := .unsent, order := [.withdraw] } }
        = some (.withdraw, 0, .withdraw) := by decide +kernel

theorem test_ownSlot_hands_over :
    ((after .ownSlot (inRound (busy [waiting 64 9] []))).entry? 64).map (fun e => (e.state, e.stamp, e.awaiting))
        = some (.wanted, some 51, [2, 9, 17])
      ∧ sentIn (due (busy [held 66 11] [])) = some (.presence, 50,
          .presence { interest := 0x0030, standing := .sound, heard := [(2, 6), (9, 5), (17, 1)], held := [66] })
      ∧ (after .ownSlot (inRound (up .listening))).line.phase = .round 4 := by decide +kernel

/-! ## Ends of own frames -/

/-- The CLAIM of the only entry is on the line. -/
def claiming (awaiting : List Station) : State :=
  sends (busy [{ wanted 65 10 awaiting with announced := false, slot := { onLine := some .firstClaim, unsent := none } }] [])
    .firstClaim (.claim 65 10 40)

/-- The send fault count set. -/
def sentFaults (n : Nat) (s : State) : State := { s with standing := { s.standing with sendFaults := n } }

theorem test_sendFault :
    ((after .sendFault (claiming [2])).entry? 65).map (fun e => e.slot) = some { onLine := none, unsent := some .firstClaim }
      ∧ (after .sendFault (sends (due full) .presence (.presence (saying [])))).scheduler.presence = .unsent
      ∧ (after .sendFault (sentFaults 234 (claiming [2]))).standing.sendFaults = 240
      ∧ (after .sendFault (sends full .grant (.grant 17 70 21))).answers = full.answers := by decide +kernel

/-- A HOLD on the line, read back: reported, with its third cell flat, with no usable difference in its last cell, up to that
cell, and whole. -/
theorem test_read_back :
    let s := sends full .hold (.hold 66 11)
    let driven := frameCells { header := full.ownHeader, body := .hold 66 11 }
    let flat : LineCell := { first := .pAbove, second := .pAbove }
    let lost : LineCell := { first := .unusable, second := .unusable }
    (after (.sendFault .mismatch) s).standing.sendFaults = 6
      ∧ after (.sendFault (.cells (driven.take 2 ++ [flat]))) s = after (.sendFault .mismatch) s
      ∧ after (.sendFault (.cells (driven.dropLast ++ [lost]))) s = after (.sendFault .mismatch) s
      ∧ after (.sendFault (.cells driven.dropLast)) s = s
      ∧ after (.sendFault (.cells driven)) s = after .holdComplete s := by decide +kernel

/-- The comparison as the statements say it. -/
theorem test_read_back_witness :
    let f : SentFrame := { kind := .hold, frame := { header := full.ownHeader, body := .hold 66 11 }, slot := 4, live := true }
    f.Mismatch .mismatch ∧ f.Mismatch (.cells [heldP]) ∧ f.cells.take 30 <+: f.cells ∧ f.cells.take 30 ≠ f.cells :=
  ⟨.inl rfl, .inr ⟨[heldP], rfl, by decide +kernel, by decide +kernel⟩, List.take_prefix _ _, by decide +kernel⟩

theorem test_silencing :
    saysAfter .sendFault (sentFaults 235 (claiming [2]))
        = [.standing .silenced 240 0, .closed 65 .abandoned (some .silenced), .session .silent .silenced none]
      ∧ saysAfter .sendFault (sentFaults 240 (sends (up .leaving) .withdraw .withdraw))
        = [.standing .silenced 240 0, .session .setup .silenced none]
      ∧ saysAfter .sendFault (sentFaults 235 (sends (up .setup) .withdraw .withdraw)) = [.standing .silenced 240 0] := by
  decide +kernel

/-- A request that stands is on the line, of each kind. -/
theorem test_sends_witness :
    (∃ f, (claiming [2]).Sends .firstClaim (.claim 65 10 40) f)
      ∧ (∃ f, (sends full .resend (.claim 65 10 40)).Sends .resend (.claim 65 10 40) f)
      ∧ (∃ f, (sends full .hold (.hold 66 11)).Sends .hold (.hold 66 11) f)
      ∧ (∃ f, (sends full .free (.free 67 12 .released)).Sends .free (.free 67 12 .released) f)
      ∧ (∃ f, (sends full .grant (.grant 17 70 21)).Sends .grant (.grant 17 70 21) f)
      ∧ (∃ f, (sends full .presence (.presence (saying []))).Sends .presence (.presence (saying [])) f)
      ∧ (∃ f, (sends (up .leaving) .withdraw .withdraw).Sends .withdraw .withdraw f) :=
  ⟨⟨_, rfl, rfl, rfl, rfl⟩, ⟨_, rfl, rfl, rfl, rfl⟩, ⟨_, rfl, rfl, rfl, rfl⟩, ⟨_, rfl, rfl, rfl, rfl⟩,
    ⟨_, rfl, rfl, rfl, rfl⟩, ⟨_, rfl, rfl, rfl, rfl⟩, ⟨_, rfl, rfl, rfl, rfl⟩⟩

theorem test_claimFrameComplete :
    entryAfter 65 .claimFrameComplete (claiming []) = some .held
      ∧ ((after .claimFrameComplete (claiming [2])).entry? 65).map (fun e => (e.announced, e.resendDue))
        = some (true, some (.atTick 1020))
      ∧ ((after .claimFrameComplete (sends full .firstClaim (.claim 67 12 40))).entry? 67).map (·.announced)
        = some true := by decide +kernel

theorem test_resend_hold_and_grant_complete :
    ((after .claimResendComplete (sends full .resend (.claim 65 10 40))).entry? 65).map
        (fun e => (e.resendCount, e.resendDue)) = some (1, some (.atTick 1020))
      ∧ ((after .claimResendComplete
          (sends (busy [{ wanted 65 10 [2] with resendCount := 255 }] []) .resend (.claim 65 10 40))).entry? 65).map
        (·.resendCount) = some 255
      ∧ entryAfter 66 .holdComplete (sends full .hold (.hold 66 11)) = some .held
      ∧ (after .grantComplete (sends full .grant (.grant 17 70 21))).answers = [] := by decide +kernel

theorem test_freeComplete :
    entryAfter 67 .freeComplete (sends full .free (.free 67 12 .released)) = none
      ∧ saysAfter .freeComplete (sends full .free (.free 67 12 .released))
        = [.closed 67 .released none, .view 67 .free none none]
      ∧ saysAfter .freeComplete
          (sends (busy [{ releasing 67 12 with wasHeld := false }] []) .free (.free 67 12 .released))
        = [.closed 67 .released none] := by decide +kernel

theorem test_presence_and_withdraw_complete :
    saysAfter .presenceComplete (sends (up .announcing) .presence (.presence (saying [])))
        = [.session .member .announced none]
      ∧ (after .presenceComplete (sends full .presence (.presence (saying [])))).scheduler.presenceDue = some 100
      ∧ saysAfter .withdrawComplete (sends (up .leaving) .withdraw .withdraw)
        = [.session .setup .withdrawn none] := by decide +kernel

/-- A completed own frame that brings the send fault count to 119 gives STANDING before the completion's own notices. -/
theorem test_standing_at_a_completion :
    saysAfter .freeComplete (sends { full with standing := { full.standing with sendFaults := 120, standing := .impaired } }
        .free (.free 67 12 .released))
      = [.standing .sound 119 0, .closed 67 .released none, .view 67 .free none none] := by decide +kernel

/-- A frame that runs out. -/
def runsOut : State :=
  { full with line := { full.line with
      onLine := some { kind := .free, frame := { header := full.ownHeader, body := .free 67 12 .released }, slot := 4,
                       live := false } } }

theorem test_frame_that_ran_out :
    runsOut.line.onLine.map (·.live) = some false ∧ (after .freeComplete runsOut).claims = runsOut.claims
      ∧ (after .freeComplete runsOut).line.onLine = none := by decide +kernel

/-! ## Expiries -/

theorem test_joinWindowEnd :
    saysAfter .joinWindowEnd windowOver = [.session .announcing .window none]
      ∧ saysAfter .joinWindowEnd { watcher .listening with session :=
          { (watcher .listening).session with joinWindow := some 0 } } = [.session .observing .window none]
      ∧ windowOver.scheduler.presence = .empty ∧ (after .joinWindowEnd windowOver).view = List.replicate 256 .free := by
  decide +kernel

/-- The own-presence timer at a value. -/
def unheard (n : Nat) : State := { full with session := { full.session with ownPresence := some n } }

theorem test_ownPresenceLapse :
    (cfg.lossLimit - 1) * (cfg.period * 10) = 400
      ∧ (after .ownPresenceLapse (unheard 400)).session.state = .listening
      ∧ (after .ownPresenceLapse (unheard 399)).session.state = .member
      ∧ (saysAfter .ownPresenceLapse (unheard 400)).getLast? = some (.session .listening .lapse none) := by
  decide +kernel

/-- Two members' losses are due. -/
def losing : State :=
  { busy [wanted 65 10 [2]] [] with
    roster := [{ peer 2 6 with lossDue := true }, peer 9 5, { peer 17 1 with lossDue := true }] }

theorem test_loss :
    saysAfter .loss losing = [.peer 2 .lost 6, .granted 65, .view 65 .heldLocal (some .own) none]
      ∧ (after .loss losing).roster.map (·.station) = [9, 17] := by decide +kernel

theorem test_patienceExpiry :
    saysAfter .patienceExpiry (busy [{ waiting 64 9 with patience := some 1000 }] []) = [.closed 64 .expired none]
      ∧ entryAfter 65 .patienceExpiry (busy [waiting 64 9, { wanted 65 10 [2] with patience := some 999 }] [])
        = some (.releasing .expired)
      ∧ entryAfter 65 .patienceExpiry (busy [{ wanted 65 10 [2] with patience := some 1001 }] []) = some .wanted := by
  decide +kernel

theorem test_resendDue :
    ((after .resendDue (busy [{ wanted 65 10 [2] with resendDue := some (.atTick 1000) }] [])).entry? 65).map
        (fun e => (e.resendDue, e.slot.unsent)) = some (none, some .resend)
      ∧ (after .resendDue (busy [{ asks .firstClaim (wanted 65 10 [2]) with resendDue := some (.atTick 1000) }] [])).scheduler.order
        = [.entry 65] := by decide +kernel

/-- The lawful table of a re-send that is due. -/
theorem test_resendDue_witness :
    (busy [{ wanted 65 10 [2] with resendDue := some (.atTick 1000) }] []).ClaimsLawful := by
  refine ⟨by decide, by decide, ?_, by decide, by decide⟩
  intro e he
  obtain rfl := List.mem_singleton.mp he
  exact ⟨by decide, by decide, by decide, by decide, by decide, by decide⟩

theorem test_presenceDue_and_quiet_span :
    (after .presenceDue { full with scheduler := { full.scheduler with presenceDue := some 0 } }).scheduler.order
        = full.scheduler.order ++ [.presence]
      ∧ saysAfter .recoveryQuietSpan
          { silenced .silent with standing := { (silenced .silent).standing with recoveryQuiet := 400 } }
        = [.standing .sound 0 0, .session .listening .recovered none]
      ∧ (after .recoveryQuietSpan (recovering 3)).session.state = .silent := by decide +kernel

/-! ## Layout and law witnesses -/

theorem test_codec_witness : linkFrame (.claim 66 500) ≠ [] ∧ frameValid { header := from_ 9 5 40, body := .withdraw } := by
  decide

/-- What a lawful view entry is, as a test. -/
def entryLawful : ViewEntry → Bool
  | .unknown | .free | .held _ => true
  | .contested a b => !a.same b

theorem entryLawful_sound (v : ViewEntry) (h : entryLawful v = true) : v.Lawful := by
  cases v <;> simp_all [entryLawful, ViewEntry.Lawful]

theorem full_view : full.ViewLawful := by
  refine ⟨by decide +kernel, fun v hv => entryLawful_sound v ?_, by decide +kernel⟩
  have h : full.view.all entryLawful = true := by decide +kernel
  exact List.all_eq_true.mp h v hv

/-- Two slots of `full` hold requests, and the placement order names them. -/
theorem test_slots_witness : full.SlotsLawful := by
  have entries : ((List.finRange 256).all fun r => decide (SlotName.entry r ∈ full.scheduler.order) ==
      (full.entry? r).any fun e => e.slot.unsent.isSome || e.slot.onLine.isSome) = true := by decide +kernel
  refine ⟨by decide +kernel, by decide +kernel, by decide +kernel, fun r => ?_, (fun f p h => by cases h), (fun f h => by cases h)⟩
  have h := List.all_eq_true.mp entries r (List.mem_finRange r)
  rw [beq_iff_eq] at h
  rw [← decide_eq_true_iff (p := SlotName.entry r ∈ full.scheduler.order), h, Option.any_eq_true]
  simp [Option.isSome_iff_ne_none]

/-- A state with entries, members, GRANTs and notices meets every law. -/
theorem test_laws_witness :
    behind.standing.Lawful ∧ full.SilenceLawful ∧ full.RosterLawful ∧ full.ClaimsLawful ∧ full.ListsLawful
      ∧ full.AnswersLawful ∧ full.ViewLawful
      ∧ ({ behind.notices with sessionMark := false, stationMarks := [], resourceMarks := [] } : NoticeQueue).Lawful :=
  ⟨⟨by decide, by decide, by decide, by decide, by decide⟩,
    ⟨by unfold State.ObserverSilent; decide, by decide, by decide, by decide, by decide, by decide, by decide⟩,
    ⟨by decide, by decide, by decide, by decide⟩, full_claims,
    ⟨by decide, by decide, by decide, by decide, by decide⟩, ⟨by decide, by decide, by decide, by decide, by decide⟩,
    full_view,
    ⟨by decide, ⟨rfl, rfl, trivial⟩, by decide, by decide, by decide, by decide⟩⟩

theorem test_clock_witness : ∀ rest, full.pending ≠ .fullReset :: rest := fun _ h => by cases h

end Sys2Proof.Tests
end

/-! PROOFS. The end of an own frame that completes: what it leaves at the Line Interface and the Standing Monitor before its
owning block takes it (R137, R142, R150), how it leaves its entry's slot (R10), and what an announce does (R15). -/

namespace Sys2Proof.Machine

/-! ## The end of the frame -/

/-- R137, R142, R150: the part when a completed own frame has left the line and is counted, before its owner takes it. -/
def State.frameEnded (s : State) : State :=
  { s with line := s.line.ownFrameEnds .rotating s.session.number }.countCompleted

@[simp] theorem State.frameEnded_session (s : State) : s.frameEnded.session = s.session := by simp [State.frameEnded]
@[simp] theorem State.frameEnded_claims (s : State) : s.frameEnded.claims = s.claims := by simp [State.frameEnded]
@[simp] theorem State.frameEnded_answers (s : State) : s.frameEnded.answers = s.answers := by simp [State.frameEnded]
@[simp] theorem State.frameEnded_roster (s : State) : s.frameEnded.roster = s.roster := by simp [State.frameEnded]
@[simp] theorem State.frameEnded_view (s : State) : s.frameEnded.view = s.view := by simp [State.frameEnded]
@[simp] theorem State.frameEnded_scheduler (s : State) : s.frameEnded.scheduler = s.scheduler := by
  simp [State.frameEnded]

@[simp] theorem State.frameEnded_entry? (s : State) (r : Resource) : s.frameEnded.entry? r = s.entry? r :=
  State.entry?_congr (by simp) r

@[simp] theorem State.frameEnded_viewWatch (s : State) : s.frameEnded.viewWatch = s.viewWatch := by
  simp [State.viewWatch, State.config]

/-- Counting a completed frame leaves the standing that the lower send fault count gives, and a SILENCED one alone. -/
theorem State.countCompleted_standing (s : State) :
    s.countCompleted.standing =
      if s.standing.standing = .silenced then s.standing
      else
        { s.standing with
          sendFaults := s.standing.sendFaults - 1
          standing := deriveStanding s.standing.standing (s.standing.sendFaults - 1) s.standing.receiveFaults } := by
  unfold State.countCompleted
  split
  · rfl
  · exact State.setCounts_standing s _ _

/-- The count's notices do not depend on the line. -/
@[simp] theorem State.frameEnded_notices (s : State) : s.frameEnded.notices = s.countCompleted.notices := by
  unfold State.frameEnded State.countCompleted
  dsimp only
  split
  · rfl
  · rw [State.setCounts_notices, State.setCounts_notices]

/-- What every completion does before its owner takes it. -/
theorem State.completed_frameEnded (s : State) : s.Completed s.frameEnded where
  line := by simp [State.frameEnded, LineInterface.ownFrameEnds, LineInterface.frameEnd]
  standing := State.countCompleted_standing _
  clock := by simp
  seq := by simp
  link := by simp [State.frameEnded]
  pending := by simp [State.frameEnded]

/-- Operations that leave the base keep what every completion does. -/
theorem State.Completed.base {s t u : State} (ht : s.Completed t) (hb : t.SameBase u) : s.Completed u where
  line := (hb.line (by rw [ht.line])).trans ht.line
  standing := hb.standing.trans ht.standing
  clock := hb.clock.trans ht.clock
  seq := hb.seq.trans ht.seq
  link := hb.link.trans ht.link
  pending := hb.pending.trans ht.pending

/-- Giving the event's notices keeps what every completion does. -/
theorem State.Completed.finish {s : State} {k : Take} (ht : s.Completed k.state) (b : State) (p : Option NoticeBody) :
    s.Completed (k.finish b p) :=
  ⟨ht.line, ht.standing, ht.clock, ht.seq, ht.link, ht.pending⟩

/-- A frame whose request still stands goes to its owner. -/
theorem State.Sends.completes {s : State} {kind : SentKind} {body : Body} {f : SentFrame} (h : s.Sends kind body f)
    (owner : Frame → State → State) : s.completes kind owner = owner f.frame s.frameEnded := by
  obtain ⟨onLine, isKind, -, live⟩ := h
  simp [State.completes, onLine, isKind, live, State.frameEnded]

/-- The completion of a CLAIM's first send is its entry's announce. -/
theorem State.Sends.exec_claimFrameComplete {s : State} {r : Resource} {q : ClaimSeq} {stamp : Clock} {f : SentFrame}
    (h : s.Sends .firstClaim (.claim r q stamp) f) : exec .claimFrameComplete s = .next (s.frameEnded.announce r) := by
  have owned : s.completesAs .firstClaim = announceOf f.frame s.frameEnded := h.completes announceOf
  obtain ⟨-, -, body, -⟩ := h
  show Host.Outcome.next (s.completesAs .firstClaim) = _
  rw [owned, announceOf, body]

/-! ## The entry's slot -/

/-- Changing an entry leaves the base of the state. -/
theorem State.modifyEntry_base (s : State) (r : Resource) (f : ClaimEntry → ClaimEntry) :
    s.SameBase (s.modifyEntry r f) := ⟨rfl, rfl, rfl, rfl, rfl, rfl, rfl, rfl, fun _ => rfl⟩

/-- `slotCompletes` changes the claim table as `modifyEntry` does. -/
theorem State.slotCompletes_claims (s : State) (r : Resource) :
    (s.slotCompletes r).claims = (s.modifyEntry r fun e => { e with slot := { e.slot with onLine := none } }).claims := by
  unfold State.slotCompletes
  dsimp only
  split <;> rfl

/-- A frame that leaves its entry's slot leaves the base of the state. -/
theorem State.slotCompletes_base (s : State) (r : Resource) : s.SameBase (s.slotCompletes r) where
  session := by simp
  roster := by simp
  standing := by simp
  notices := by simp
  link := by simp
  pending := by simp
  clock := by rw [State.slotCompletes_claims]; rfl
  seq := by rw [State.slotCompletes_claims]; rfl
  line := fun _ => by simp

/-- The frame leaves the slot of its entry and no other. -/
theorem State.entry?_slotCompletes (s : State) (r r' : Resource) :
    (s.slotCompletes r).entry? r' =
      if r' = r then (s.entry? r').map fun e => { e with slot := { e.slot with onLine := none } } else s.entry? r' := by
  refine (State.entry?_congr ?_ r').trans (State.entry?_modifyEntry s r r' _ fun _ => rfl)
  rw [State.slotCompletes_claims]

/-- The slot keeps its place only for a newer request that waits in it (R10, R145). -/
theorem State.slotCompletes_scheduler {s : State} {r : Resource} {e : ClaimEntry} (he : s.entry? r = some e) :
    (s.slotCompletes r).scheduler =
      if e.slot.unsent = none then { s.scheduler with order := s.scheduler.order.filter (· != .entry r) }
      else s.scheduler := by
  cases hu : e.slot.unsent <;> simp [State.slotCompletes, he, hu, SendScheduler.forget]

/-- A request placed after the frame has left the slot is the newest, whether or not the slot kept its place (R145). -/
theorem State.slotCompletes_place (s : State) (r : Resource) :
    (s.slotCompletes r).scheduler.place (.entry r) = s.scheduler.place (.entry r) := by
  unfold State.slotCompletes
  dsimp only
  split
  · rfl
  · simp [SendScheduler.place, SendScheduler.forget]

/-! ## The notices of an event that changes no view entry -/

/-- A view that has not changed, and no holder added beside another, give no notice (R109, R110). -/
theorem viewNotices_same (watch : Option Groups) (n : Nat) (v : List ViewEntry) : viewNotices [] watch n v v = [] := by
  induction v generalizing n with
  | nil => rfl
  | cons e rest ih => cases e <;> cases watch <;> simp [viewNotices, ih]

/-- An event that has moved no entry and no view entry gives no notice. -/
theorem State.begin_finish_of_view {s t : State} (h : t.view = s.view) : t.begin.finish s none = t := by
  have quiet : viewNotices t.begin.conflicts s.viewWatch 0 s.view t.view = [] := by
    rw [h]
    exact viewNotices_same _ _ _
  rw [Take.finish, State.begin_state, quiet]
  rfl

/-- What the move to HELD of a ready entry adds to the notices of its event. -/
theorem Take.moveToHeld_events {k : Take} {r : Resource} {e : ClaimEntry} (he : k.state.entry? r = some e)
    (hr : e.readyToHold = true) :
    (k.moveToHeld r).granted = insertResource r k.granted
      ∧ (k.moveToHeld r).conflicts =
          if ((viewAt k.state.view r).add (.own e.seq)).2 then insertResource r k.conflicts else k.conflicts := by
  simp only [Take.moveToHeld, he, hr, if_true]
  exact ⟨rfl, rfl⟩

/-- A move to HELD leaves the entries of the other resources. -/
theorem Take.entry?_moveToHeld_other (k : Take) {r r' : Resource} (h : r' ≠ r) :
    (k.moveToHeld r).state.entry? r' = k.state.entry? r' := by
  by_cases ready : ∃ e, k.state.entry? r = some e ∧ e.readyToHold = true
  · obtain ⟨e, he, hr⟩ := ready
    rw [Take.entry?_moveToHeld_ready he hr, if_neg h]
  · rw [Take.moveToHeld_of_not fun e he => Bool.eq_false_iff.mpr fun hr => ready ⟨e, he, hr⟩]

/-! ## The announce (R15) -/

/-- R15: what the announce does to its entry before a move to HELD. -/
def ClaimEntry.announce (due : Nat) (e : ClaimEntry) : ClaimEntry :=
  ({ e with slot := { e.slot with onLine := none }, announced := true }).awaitNext due

/-- The announce of an entry, less the move to HELD that may follow. -/
def State.markAnnounced (s : State) (r : Resource) : State :=
  (s.slotCompletes r).modifyEntry r fun e => ({ e with announced := true }).awaitNext s.nextResend

/-- The announce marks the entry and then moves it to HELD if it can. -/
theorem State.announce_eq (s : State) (r : Resource) :
    s.announce r = ((s.markAnnounced r).begin.moveToHeld r).finish s none := rfl

@[simp] theorem State.markAnnounced_answers (s : State) (r : Resource) : (s.markAnnounced r).answers = s.answers := by
  simp [State.markAnnounced]
@[simp] theorem State.markAnnounced_view (s : State) (r : Resource) : (s.markAnnounced r).view = s.view := by
  simp [State.markAnnounced]
@[simp] theorem State.markAnnounced_scheduler (s : State) (r : Resource) :
    (s.markAnnounced r).scheduler = (s.slotCompletes r).scheduler := rfl

/-- Marking the entry leaves the base of the state. -/
theorem State.markAnnounced_base (s : State) (r : Resource) : s.SameBase (s.markAnnounced r) :=
  (s.slotCompletes_base r).trans (State.modifyEntry_base _ r _)

/-- The re-send due time changes no other field. -/
theorem ClaimEntry.awaitNext_resource (due : Nat) (e : ClaimEntry) : (e.awaitNext due).resource = e.resource := by
  unfold ClaimEntry.awaitNext
  split <;> rfl

/-- The marked entry, and the others as they were. -/
theorem State.entry?_markAnnounced (s : State) (r r' : Resource) :
    (s.markAnnounced r).entry? r' =
      if r' = r then (s.entry? r').map (ClaimEntry.announce s.nextResend) else s.entry? r' := by
  have keeps (e : ClaimEntry) : (({ e with announced := true }).awaitNext s.nextResend).resource = e.resource :=
    ClaimEntry.awaitNext_resource _ _
  rw [State.markAnnounced, State.entry?_modifyEntry _ _ _ _ keeps, State.entry?_slotCompletes]
  split
  · rw [Option.map_map]; rfl
  · rfl

/-- R15: WANTED with no answer awaited. -/
theorem ClaimEntry.announce_answered {e : ClaimEntry} (due : Nat) (ha : e.awaiting = []) :
    e.announce due = { e with slot := { e.slot with onLine := none }, announced := true } := by
  simp [ClaimEntry.announce, ClaimEntry.awaitNext, ha]

/-- R15: WANTED with an answer awaited. -/
theorem ClaimEntry.announce_awaiting {e : ClaimEntry} (due : Nat) (hw : e.state = .wanted) (ha : e.awaiting ≠ []) :
    e.announce due =
      { e with slot := { e.slot with onLine := none }, announced := true, resendDue := some (.atTick due) } := by
  simp [ClaimEntry.announce, ClaimEntry.awaitNext, hw, ha]

/-- R15: in RELEASING, as in every state but WANTED, the entry is announced alone. -/
theorem ClaimEntry.announce_of_not_wanted {e : ClaimEntry} (due : Nat) (hw : e.state ≠ .wanted) :
    e.announce due = { e with slot := { e.slot with onLine := none }, announced := true } := by
  simp [ClaimEntry.announce, ClaimEntry.awaitNext, hw]

/-- R18: the announce makes ready for HELD the WANTED entry that awaits nothing, and no other. -/
theorem ClaimEntry.readyToHold_announce (due : Nat) (e : ClaimEntry) :
    (e.announce due).readyToHold = true ↔ e.state = .wanted ∧ e.awaiting = [] := by
  unfold ClaimEntry.announce ClaimEntry.awaitNext
  split <;> simp_all [ClaimEntry.readyToHold]

/-- The announce changes no entry but its own. -/
theorem State.entry?_announce_other {s : State} {r r' : Resource} (h : r' ≠ r) :
    (s.announce r).entry? r' = s.entry? r' := by
  rw [State.announce_eq, Take.finish_entry?, Take.entry?_moveToHeld_other _ h, State.begin_state,
    State.entry?_markAnnounced, if_neg h]

/-- The announce leaves the session and the roster, and keeps what the completion of its frame does. -/
theorem State.announce_base (s : State) (r : Resource) :
    (s.announce r).session = s.session ∧ (s.announce r).roster = s.roster
      ∧ ∀ {b : State}, b.Completed s → b.Completed (s.announce r) := by
  have base : s.SameBase ((s.markAnnounced r).begin.moveToHeld r).state :=
    (s.markAnnounced_base r).trans (Take.moveToHeld_base (s.markAnnounced r).begin r)
  exact ⟨base.session, base.roster, fun done => (done.base base).finish s none⟩

/-- An announce that leaves its entry waiting, or finds it in another state than WANTED, marks it and does no more. -/
theorem State.announce_of_not_ready {s : State} {r : Resource} {e : ClaimEntry} (he : s.entry? r = some e)
    (hr : ¬ (e.state = .wanted ∧ e.awaiting = [])) : s.announce r = s.markAnnounced r := by
  have stays : (s.markAnnounced r).begin.moveToHeld r = (s.markAnnounced r).begin := by
    apply Take.moveToHeld_of_not
    intro e' he'
    rw [State.begin_state, State.entry?_markAnnounced, if_pos rfl, he] at he'
    cases he'
    rw [← Bool.not_eq_true, ClaimEntry.readyToHold_announce]
    exact hr
  rw [State.announce_eq, stays, State.begin_finish_of_view (s.markAnnounced_view r)]

/-- R15: what such an announce leaves. -/
theorem State.announce_marks {s : State} {r : Resource} {e : ClaimEntry} (he : s.entry? r = some e)
    (hr : ¬ (e.state = .wanted ∧ e.awaiting = [])) :
    (s.announce r).entry? r = some (e.announce s.nextResend) ∧ (s.announce r).answers = s.answers
      ∧ (s.announce r).view = s.view ∧ (s.announce r).notices = s.notices
      ∧ (s.announce r).scheduler =
          (if e.slot.unsent = none then { s.scheduler with order := s.scheduler.order.filter (· != .entry r) }
           else s.scheduler) := by
  rw [State.announce_of_not_ready he hr]
  exact ⟨by simp [State.entry?_markAnnounced, he], by simp, by simp, (s.markAnnounced_base r).notices,
    State.slotCompletes_scheduler he⟩

/-- R15, R18: the announce of a WANTED entry that awaits nothing moves it to HELD. -/
theorem State.announce_holds {s : State} {r : Resource} {e : ClaimEntry} (he : s.entry? r = some e)
    (hw : e.state = .wanted) (ha : e.awaiting = []) :
    (s.announce r).scheduler = s.scheduler.place (.entry r)
      ∧ (s.announce r).entry? r = some (e.announce s.nextResend).held
      ∧ (s.announce r).answers = s.answers.filter (fun g => g.resource != r)
      ∧ (s.announce r).view = s.view.set r.val ((viewAt s.view r).add (.own e.seq)).1
      ∧ (s.announce r).notices =
          (NoticeBody.granted r :: viewNotices (if ((viewAt s.view r).add (.own e.seq)).2 then [r] else [])
            s.viewWatch 0 s.view (s.announce r).view).foldl NoticeQueue.give s.notices := by
  have marked : (s.markAnnounced r).begin.state.entry? r = some (e.announce s.nextResend) := by
    rw [State.begin_state, State.entry?_markAnnounced, if_pos rfl, he, Option.map_some]
  have ready : (e.announce s.nextResend).readyToHold = true := (ClaimEntry.readyToHold_announce _ e).mpr ⟨hw, ha⟩
  have seq : (e.announce s.nextResend).seq = e.seq := by rw [ClaimEntry.announce_answered _ ha]
  obtain ⟨base, -, answers, scheduler, view⟩ := Take.moveToHeld_ready marked ready
  obtain ⟨granted, conflicts⟩ := Take.moveToHeld_events marked ready
  rw [State.begin_state, State.markAnnounced_view, seq] at view conflicts
  refine ⟨?_, ?_, ?_, view, ?_⟩
  · exact scheduler.trans (s.slotCompletes_place r)
  · rw [State.announce_eq, Take.finish_entry?, Take.entry?_moveToHeld_ready marked ready, if_pos rfl]
  · exact answers.trans (by simp)
  · have given : ((s.markAnnounced r).begin.moveToHeld r).state.notices = s.notices :=
      base.notices.trans (s.markAnnounced_base r).notices
    rw [State.announce_eq, Take.finish_view, Take.finish, State.giveAll_notices, given, granted, conflicts]
    rfl

/-- Settles O41: the announce at the part that the frame's end leaves, by what is awaited and by the entry's state. -/
theorem claimCompletionAnnounces : Obligations.ClaimCompletionAnnounces := by
  intro f r q stamp e s sends he
  have he' : s.frameEnded.entry? r = some e := by rw [State.frameEnded_entry?, he]
  have due : s.frameEnded.nextResend = s.session.tick + s.config.reply := by
    simp [State.nextResend, State.config]
  obtain ⟨session, roster, completed⟩ := s.frameEnded.announce_base r
  refine ⟨_, sends.exec_claimFrameComplete, completed s.completed_frameEnded, by simp [session], by simp [roster],
    ?others, ?holds, ?awaits, ?releasing⟩
  case others =>
    intro r' h
    rw [State.entry?_announce_other h, State.frameEnded_entry?]
  case holds =>
    intro hw ha
    obtain ⟨scheduler, entry, answers, view, notices⟩ := State.announce_holds he' hw ha
    refine ⟨by simp [scheduler, SendScheduler.place], ?_, by simp [answers], by simp [view], by simpa using notices⟩
    rw [entry, ClaimEntry.announce_answered _ ha]
    rfl
  case awaits =>
    intro hw ha
    obtain ⟨entry, answers, view, notices, scheduler⟩ := State.announce_marks he' fun h => ha h.2
    refine ⟨?_, by simp [answers], by simp [view], by simp [notices], by simp [scheduler]⟩
    rw [entry, ClaimEntry.announce_awaiting _ hw ha, due]
  case releasing =>
    intro c hc
    have notWanted : e.state ≠ .wanted := by simp [hc]
    obtain ⟨entry, answers, view, notices, scheduler⟩ := State.announce_marks he' fun h => notWanted h.1
    refine ⟨?_, by simp [answers], by simp [view], by simp [notices], by simp [scheduler]⟩
    rw [entry, ClaimEntry.announce_of_not_wanted _ notWanted]

end Sys2Proof.Machine

/-! PROOFS. How a GRANT decision is taken into the answer queue (R40, R41), and that the queue stays keyed by target and
resource. -/

namespace Sys2Proof.Machine

/-- R40: two GRANTs for one target and resource, of which the queue may hold one. -/
def GrantItem.SameClaim (a b : GrantItem) : Prop := a.target = b.target ∧ a.resource = b.resource

/-- R40: the queue without its item for the target and resource of `g`. -/
def withdrawStale (queue : List GrantItem) (g : GrantItem) : List GrantItem :=
  queue.filter fun x => !(x.target == g.target && x.resource == g.resource)

/-- What stays of the queue is what is for another target or resource. -/
theorem mem_withdrawStale {queue : List GrantItem} {g x : GrantItem} :
    x ∈ withdrawStale queue g ↔ x ∈ queue ∧ ¬ x.SameClaim g := by
  simp [withdrawStale, GrantItem.SameClaim, imp_iff_not_or]

/-- With no stale item nothing is withdrawn. -/
theorem withdrawStale_of_none {queue : List GrantItem} {g : GrantItem} (fresh : ∀ x ∈ queue, ¬ x.SameClaim g) :
    withdrawStale queue g = queue :=
  List.filter_eq_self.mpr fun x hx => by simpa [GrantItem.SameClaim, imp_iff_not_or] using fresh x hx

/-- The queue's test for a stale item. -/
theorem any_stale_iff {queue : List GrantItem} {g : GrantItem} :
    queue.any (fun x => x.target == g.target && x.resource == g.resource) = true ↔ ∃ x ∈ queue, x.SameClaim g := by
  simp [GrantItem.SameClaim]

/-- R40: a queue that holds the same item stays as it is. -/
theorem joinAnswers_of_mem {queue : List GrantItem} {g : GrantItem} (same : g ∈ queue) :
    joinAnswers queue g = some queue :=
  if_pos same

/-- R40: a stale item is withdrawn and the new one joins at the tail, however full the queue is. -/
theorem joinAnswers_of_stale {queue : List GrantItem} {g : GrantItem} (new : g ∉ queue)
    (stale : ∃ x ∈ queue, x.SameClaim g) : joinAnswers queue g = some (withdrawStale queue g ++ [g]) := by
  rw [joinAnswers, if_neg new, if_pos (any_stale_iff.mpr stale), withdrawStale]

/-- R40, R41: with neither, the room in the queue decides. -/
theorem joinAnswers_of_fresh {queue : List GrantItem} {g : GrantItem} (new : g ∉ queue)
    (fresh : ∀ x ∈ queue, ¬ x.SameClaim g) :
    joinAnswers queue g = if queue.length < 16 then some (queue ++ [g]) else none := by
  have noStale : ¬ ∃ x ∈ queue, x.SameClaim g := fun ⟨x, hx, hs⟩ => fresh x hx hs
  rw [joinAnswers, if_neg new, if_neg (any_stale_iff.not.mpr noStale)]

/-- A decision that is taken in leaves the queue as it is, or with the new item behind what is not stale. -/
theorem joinAnswers_eq_some {queue after : List GrantItem} {g : GrantItem} (joins : joinAnswers queue g = some after) :
    after = queue ∨ after = withdrawStale queue g ++ [g] := by
  by_cases same : g ∈ queue
  · rw [joinAnswers_of_mem same] at joins
    exact .inl (Option.some.inj joins).symm
  by_cases stale : ∃ x ∈ queue, x.SameClaim g
  · rw [joinAnswers_of_stale same stale] at joins
    exact .inr (Option.some.inj joins).symm
  · have fresh : ∀ x ∈ queue, ¬ x.SameClaim g := fun x hx hs => stale ⟨x, hx, hs⟩
    rw [joinAnswers_of_fresh same fresh, Option.ite_none_right_eq_some] at joins
    rw [withdrawStale_of_none fresh]
    exact .inr (Option.some.inj joins.2).symm

/-- A queue of one GRANT per target and resource has room for one more once its stale item is withdrawn. -/
theorem pairwise_withdrawStale_append {queue : List GrantItem} (g : GrantItem)
    (distinct : queue.Pairwise fun a b => ¬ a.SameClaim b) :
    (withdrawStale queue g ++ [g]).Pairwise fun a b => ¬ a.SameClaim b := by
  refine List.pairwise_append.mpr ⟨distinct.filter _, List.pairwise_singleton _ g, fun x hx y hy => ?_⟩
  rw [List.mem_singleton.mp hy]
  exact (mem_withdrawStale.mp hx).2

/-- R40: taking a decision in keeps at most one GRANT per target and resource. -/
theorem joinAnswers_keeps_distinct {queue after : List GrantItem} {g : GrantItem}
    (distinct : queue.Pairwise fun a b => ¬ a.SameClaim b) (joins : joinAnswers queue g = some after) :
    after.Pairwise fun a b => ¬ a.SameClaim b := by
  obtain rfl | rfl := joinAnswers_eq_some joins
  · exact distinct
  · exact pairwise_withdrawStale_append g distinct

/-- Settles O24: one equation for each way of joining, and the queue that each of them leaves. -/
theorem grantDecisionJoinsTheQueue : Obligations.GrantDecisionJoinsTheQueue := by
  intro queue g
  refine ⟨joinAnswers_of_mem, joinAnswers_of_stale, fun new fresh => ⟨fun room => ?_, fun full => ?_⟩,
    fun after distinct joins => joinAnswers_keeps_distinct distinct joins⟩
  · rw [joinAnswers_of_fresh new fresh, if_pos room]
  · rw [joinAnswers_of_fresh new fresh, if_neg (Nat.not_lt.mpr full)]

end Sys2Proof.Machine

/-! PROOFS. What the Send Scheduler chooses at the own slot (R140, R144), and what putting the chosen frame on the line does to
the alternation count. -/

namespace Sys2Proof.Machine

/-! ## The choice -/

/-- R144: with nothing waiting, nothing is chosen. -/
theorem State.choice_of_nothing {s : State} (queue : s.answers = []) (own : s.firstOwn = none) : s.choice = none := by
  rw [State.choice, queue, own]

/-- R144: with no answer waiting, the first own frame is chosen. -/
theorem State.choice_of_own_only {s : State} {n : SlotName} (queue : s.answers = []) (own : s.firstOwn = some n) :
    s.choice = some (.own n) := by
  rw [State.choice, queue, own]

/-- R144: with no own frame waiting, the queue's head is chosen at any alternation count. -/
theorem State.choice_of_answer_only {s : State} {g : GrantItem} {rest : List GrantItem} (queue : s.answers = g :: rest)
    (own : s.firstOwn = none) : s.choice = some (.answer g) := by
  rw [State.choice, queue, own]

/-- R144: with both waiting, the alternation count decides. -/
theorem State.choice_of_both {s : State} {g : GrantItem} {rest : List GrantItem} {n : SlotName}
    (queue : s.answers = g :: rest) (own : s.firstOwn = some n) :
    s.choice = if s.scheduler.alternation < 3 then some (.answer g) else some (.own n) := by
  rw [State.choice, queue, own]

/-! ## The alternation count after a choice -/

@[simp] theorem State.alternate_alternation (s : State) (n : Nat) : (s.alternate n).scheduler.alternation = n := rfl

@[simp] theorem State.handOver_scheduler (s : State) (r : Resource) : (s.handOver r).scheduler = s.scheduler := rfl

/-- R13: a hand-over is the Claim Engine's, and the Send Scheduler keeps what it holds. -/
@[simp] theorem State.handOverIfQueued_scheduler (s : State) (r : Resource) :
    (s.handOverIfQueued r).scheduler = s.scheduler := by
  unfold State.handOverIfQueued
  split
  · exact s.handOver_scheduler r
  · rfl

/-- A request in an entry's slot is marked there (R10), so the Send Scheduler's own items stay. -/
@[simp] theorem State.sendEntry_scheduler (s : State) (r : Resource) (k : Slot) :
    (s.sendEntry r k).scheduler = s.scheduler := by
  unfold State.sendEntry
  dsimp only
  cases (s.handOverIfQueued r).entry? r with
  | none => rfl
  | some e =>
    dsimp only
    cases e.slot.unsent with
    | none => rfl
    | some q => cases q <;> simp

/-- R144: which own frame goes out does not matter to the count. -/
@[simp] theorem State.sendOwn_alternation (s : State) (n : SlotName) (k : Slot) :
    (s.sendOwn n k).scheduler.alternation = s.scheduler.alternation := by
  cases n with
  | withdraw => rfl
  | presence => rfl
  | entry r => exact congrArg SendScheduler.alternation (s.sendEntry_scheduler r k)

/-- R144: a GRANT counts, up to 3. -/
theorem State.send_answer_alternation (s : State) (g : GrantItem) (k : Slot) :
    (s.send (.answer g) k).scheduler.alternation = min 3 (s.scheduler.alternation + 1) := by
  rw [State.send, State.startFrame_scheduler, State.alternate_alternation]

/-- R144: an own frame clears the count. -/
theorem State.send_own_alternation (s : State) (n : SlotName) (k : Slot) :
    (s.send (.own n) k).scheduler.alternation = 0 := by
  rw [State.send, State.sendOwn_alternation, State.alternate_alternation]

/-! ## The own slot of an open round -/

/-- R140: in an open round, with no own frame on the line, OWN_SLOT is the beginning of the own slot. -/
theorem exec_ownSlot_of_round {s : State} {k : Slot} (round : s.line.phase = .round k) (idle : s.line.onLine = none) :
    exec .ownSlot s = .next s.slotBegins := by
  show Host.Outcome.next (if s.line.phase.isRound && !s.driverActive then s.slotBegins else s) = _
  rw [if_pos (by simp [round, idle, LinePhase.isRound, State.driverActive])]

/-- R140: with nothing to choose the own slot passes unused, whether or not the part may send. -/
theorem State.slotBegins_of_nothing {s : State} (nothing : s.choice = none) :
    s.slotBegins = { s with line := { s.line with phase := .round s.ownSlot } } := by
  rw [State.slotBegins, nothing]
  exact ite_self _

/-- Settles O36: the rows of R144's table, and the two events that leave the count as it is. -/
theorem choiceFollowsTheAlternation : Obligations.ChoiceFollowsTheAlternation := by
  intro s
  refine ⟨State.choice_of_nothing, fun _ => State.choice_of_own_only, fun _ _ => State.choice_of_answer_only,
    fun _ _ _ => State.choice_of_both, s.send_answer_alternation, s.send_own_alternation, ?slotPasses,
    s.withdrawGrants_scheduler⟩
  case slotPasses =>
    intro k nothing round idle
    refine ⟨s.slotBegins, exec_ownSlot_of_round round idle, ?_⟩
    rw [State.slotBegins_of_nothing nothing]
    exact ⟨idle, rfl⟩

end Sys2Proof.Machine

/-! PROOFS. What a command other than a full reset can do: it is a run of moves, each with what is known where it is made. A
law of the device that every move keeps is kept by every step. -/

namespace Sys2Proof.Machine

/-! ## The moves -/

/-- A change that leaves the session, the standing, the notices, the Link Port and the waiting commands as they are. -/
inductive State.Inner (s : State) : State → Prop
  | line (l : LineInterface) (h : l.onLine = none ∨ l.onLine = s.line.onLine) : Inner s { s with line := l }
  | clock (c : Clock) (h : s.claims.clock ≤ c) : Inner s { s with claims := { s.claims with clock := c } }
  | schedule (a : Nat) (d : Option Nat) :
      Inner s { s with scheduler := { s.scheduler with alternation := a, presenceDue := d } }
  | requestPresence : Inner s { s with scheduler := s.scheduler.requestPresence }
  | presenceDone (due : Option Nat) (h : s.line.onLine = none) :
      Inner s { s with scheduler := s.scheduler.presenceDone due }
  | withdrawDone (h : s.line.onLine = none) : Inner s { s with scheduler := s.scheduler.withdrawDone }
  | slotCompletes (r : Resource) : Inner s (s.slotCompletes r)
  | resendCompletes (r : Resource) : Inner s (s.resendCompletes r)
  | created (r : Resource) (patience : Option Nat) (fresh : s.entry? r = none)
      (room : s.claims.table.length < 16) (state : s.session.state = .member ∨ s.session.state = .observing)
      (role : s.config.role ≠ .observer) : Inner s (s.createClaim r patience)
  | removed (e : ClaimEntry) (he : e ∈ s.claims.table) (hq : e.state = .queued) :
      Inner s (s.removeEntry e.resource)
  | releases (e : ClaimEntry) (reason : CloseReason) (he : e ∈ s.claims.table)
      (hs : e.state = .wanted ∨ e.state = .held ∧ reason = .released) : Inner s (s.enterReleasing e.resource reason)
  | resent (r : Resource) : Inner s (s.placeResend r)
  | announced (r : Resource) : Inner s ((s.markAnnounced r).begin.moveToHeld r).state
  | freed (r : Resource) (e : ClaimEntry) (reason : CloseReason) (he : s.entry? r = some e)
      (hs : e.state = .releasing reason) :
      Inner s { s.removeEntry r with view := if e.wasHeld then dropAt r Holder.isOwn s.view else s.view }
  | answered (k : Take) (r : Resource) (x : Station) (hk : k.state = s) : Inner s (k.answered r x).state
  | deferred (p : Station) (r : Resource) (q : ClaimSeq) (t : Clock) (hp : ∃ m ∈ s.roster, m.station = p) :
      Inner s (s.deferClaim p r q t)
  | granted (p : Station) (r : Resource) (q : ClaimSeq) (hp : ∃ m ∈ s.roster, m.station = p)
      (state : s.session.state = .member) (notHeld : ∀ e, s.entry? r = some e → e.state ≠ .held) :
      Inner s (s.grantClaim p r q)
  | freeReceived (h : Header) (r : Resource) : Inner s (s.answerFree h r)
  | grantDone (g : GrantItem) : Inner s (s.grantCompletes g)
  | purge (k : Take) (x : Station) (hk : k.state = s) : Inner s (k.purge x).state
  | enrol (h : Header) (p : Presence) (new : s.member? h.source = none) (other : h.source ≠ s.session.number)
      (state : s.session.state.rosterEmpty = false) : Inner s (s.enrol h p)
  | members (f : Member → Member) (hf : ∀ m, (f m).station = m.station) :
      Inner s { s with roster := s.roster.map f }
  | addPeer (k : Take) (r : Resource) (x : Station) (i : Incarnation) (src : PeerSource) (hk : k.state = s) :
      Inner s (k.addHolder r (.peer x i src)).state
  | dropPeers (p : Holder → Bool) (hp : ∀ q, p (.own q) = false) :
      Inner s { s with view := dropEverywhere p s.view }
  | dropUnlisted (x : Station) (held : List Resource) :
      Inner s { s with view := dropUnlisted x held 0 s.view }
  | dropPeerAt (r : Resource) (x : Station) : Inner s { s with view := dropAt r (Holder.isPeer x) s.view }
  | endWindow : Inner s { s with view := s.view.map ViewEntry.endWindow }

/-- RESET_N is released, or a transaction is under way: the Link Port may take a command. -/
def State.LinkOpen (s : State) : Prop := s.session.resetAsserted = false ∨ s.link.phase ≠ .idle

/-- A move of the part. -/
inductive State.Move (s : State) : State → Prop
  | inner {t : State} (h : s.Inner t) : Move s t
  | link (l : LinkPort) (h : s.session.resetAsserted = true → s.link.phase = .idle → l.phase = .idle) :
      Move s { s with link := l }
  | timers (c : SessionController) (number : c.number = s.session.number) (config : c.config = s.session.config)
      (state : c.state = s.session.state) (reset : c.resetAsserted = s.session.resetAsserted) :
      Move s { s with session := c }
  | notices (bs : List NoticeBody) : Move s (s.giveAll bs)
  | dismissed (n : Notice) (rest : List Notice) (h : s.notices.queue = n :: rest) :
      Move s { s with notices := s.summarise { s.notices with queue := rest } }
  | counts (a b : Nat) (ha : a ≤ s.standing.sendFaults ∨ a ≤ 240) (hb : b ≤ s.standing.receiveFaults ∨ b ≤ 240)
      (silenced : s.standing.standing = .silenced → a = s.standing.sendFaults) : Move s (s.setCounts a b)
  | progress (frames quiet : Nat) (state : s.session.state = .silent)
      (h : frames ≤ s.standing.recoveryFrames ∨ frames < 48) :
      Move s { s with standing := { s.standing with recoveryFrames := frames, recoveryQuiet := quiet } }
  | recovered (state : s.session.state = .silent) : Move s s.completeRecovery
  | configured (c : ConfigRecord) (state : s.session.state = .setup) (idle : s.line.onLine = none) :
      Move s { s with session := { s.session with config := some c } }
  | started (state : s.session.state = .setup) (sound : s.standing.standing ≠ .silenced)
      (opened : s.LinkOpen) :
      Move s (s.activate.enterListening .start none)
  | startedSilent (state : s.session.state = .setup) (silenced : s.standing.standing = .silenced)
      (opened : s.LinkOpen) :
      Move s ({ s.activate with standing := s.standing.noProgress }.enterState .silent .start none)
  | leftMember (state : s.session.state = .member) : Move s s.leaveMember
  | leftAtOnce
      (state : s.session.state = .listening ∨ s.session.state = .announcing ∨ s.session.state = .observing) :
      Move s s.leaveAtOnce
  | windowEnds (st : StationState) (state : s.session.state = .listening)
      (role : st = .announcing ∧ s.config.role = .contender ∨ st = .observing ∧ s.config.role = .observer) :
      Move s (s.enterState st .window none)
  | lapsed (o : Option Station) (state : s.session.state = .member) : Move s (s.lapse o)
  | duplicate (active : s.session.state.receiverActive = true) (loud : s.session.state ≠ .silent)
      (idle : s.line.onLine = none) : Move s s.duplicateNumber
  | promoted (state : s.session.state = .announcing) : Move s (s.enterState .member .announced none)
  | withdrawn (state : s.session.state = .leaving) :
      Move s (({ s.clearRoster with view := viewUnknown }.deactivate).enterState .setup .withdrawn none)
  | released (straps : Station) (h : s.session.resetAsserted = true) :
      Move s { s with session := { s.session with resetAsserted := false, number := straps, tick := 0 } }
  | sends (c : Choice) (k : Slot) (idle : s.line.onLine = none) (may : s.session.state.maySend = true)
      (choice : s.choice = some c) : Move s (s.send c k)
  | fails (f : SentFrame) (h : s.line.onLine = some f) : Move s (s.frameFails f)

/-- A run of moves. -/
def State.Reach : State → State → Prop := Relation.ReflTransGen State.Move

theorem State.Reach.refl (s : State) : s.Reach s := Relation.ReflTransGen.refl

theorem State.Reach.trans {s t u : State} (h : s.Reach t) (k : t.Reach u) : s.Reach u := Relation.ReflTransGen.trans h k

theorem State.Move.reach {s t : State} (h : s.Move t) : s.Reach t := Relation.ReflTransGen.single h

theorem State.Inner.reach {s t : State} (h : s.Inner t) : s.Reach t := (State.Move.inner h).reach

/-- What every move keeps, every run keeps. -/
theorem State.Reach.keeps {P : State → Prop} (move : ∀ {s t : State}, s.Move t → P s → P t) {s t : State}
    (h : s.Reach t) (hs : P s) : P t := by
  induction h with
  | refl => exact hs
  | tail _ last ih => exact move last ih

/-- Taking a run again and again is a run. -/
theorem State.Reach.iterate {f : State → State} (h : ∀ s : State, s.Reach (f s)) (n : Nat) (s : State) : s.Reach (f^[n] s) := by
  induction n generalizing s with
  | zero => exact .refl s
  | succ n ih => exact (h s).trans (ih (f s))

/-- One run for each element of a list is a run. -/
theorem State.Reach.foldl {α : Type} {f : Take → α → Take} (h : ∀ (k : Take) a, k.state.Reach (f k a).state) (l : List α) (k : Take) :
    k.state.Reach (l.foldl f k).state := by
  induction l generalizing k with
  | nil => exact .refl _
  | cons a l ih => exact (h k a).trans (ih (f k a))

/-! ## What a move leaves -/

/-- Purging a member leaves the base of the state but for the roster. -/
theorem Take.foldl_moveToHeld_base (l : List Resource) (k : Take) : k.state.SameBase (l.foldl Take.moveToHeld k).state := by
  induction l generalizing k with
  | nil => exact .refl _
  | cons r l ih => exact (k.moveToHeld_base r).trans (ih _)

/-- What every inner move leaves. -/
structure State.InnerFrame (s t : State) : Prop where
  session : t.session = s.session
  standing : t.standing = s.standing
  notices : t.notices = s.notices
  link : t.link = s.link
  pending : t.pending = s.pending
  clock : s.claims.clock ≤ t.claims.clock
  line : s.line.onLine = none → t.line.onLine = none

theorem State.SameBase.frame {s t : State} (h : s.SameBase t) : s.InnerFrame t :=
  ⟨h.session, h.standing, h.notices, h.link, h.pending, by rw [h.clock]; exact BitVec.le_refl _, fun hn => by rw [h.line hn]; exact hn⟩

theorem State.InnerFrame.trans {s t u : State} (h : s.InnerFrame t) (k : t.InnerFrame u) : s.InnerFrame u :=
  ⟨k.session.trans h.session, k.standing.trans h.standing, k.notices.trans h.notices, k.link.trans h.link,
    k.pending.trans h.pending, BitVec.le_trans h.clock k.clock, fun hn => k.line (h.line hn)⟩

@[simp] theorem State.placeResend_clock (s : State) (r : Resource) : (s.placeResend r).claims.clock = s.claims.clock := by
  unfold State.placeResend
  split <;> [rfl; (dsimp only; split <;> rfl)]

@[simp] theorem State.await_clock (s : State) (r : Resource) (x : Station) : (s.await r x).claims.clock = s.claims.clock := by
  unfold State.await State.resendNow
  split <;> [rfl; (split <;> [(dsimp only; split <;> simp); rfl])]

/-- Awaiting a station changes the claim table and the placement order alone. -/
theorem State.await_frame (s : State) (r : Resource) (x : Station) : s.InnerFrame (s.await r x) :=
  ⟨by simp, by simp, by simp, by simp, by simp, by simp, by simp⟩

theorem State.foldl_await_frame (l : List Resource) (x : Station) (s : State) :
    s.InnerFrame (l.foldl (fun t r => t.await r x) s) := by
  induction l generalizing s with
  | nil => exact (State.SameBase.refl s).frame
  | cons r l ih => exact (s.await_frame r x).trans (ih _)

@[simp] theorem LineInterface.cutLoose_onLine_eq_none {l : LineInterface} {p : SentFrame → Bool} :
    (l.cutLoose p).onLine = none ↔ l.onLine = none := by simp [LineInterface.cutLoose]

theorem State.grantClaim_frame (s : State) (p : Station) (r : Resource) (q : ClaimSeq) : s.InnerFrame (s.grantClaim p r q) := by
  unfold State.grantClaim
  split
  · exact (State.SameBase.refl s).frame
  · rename_i queue _
    have queued : s.InnerFrame ({ s with answers := queue }.modifyEntry r (ClaimEntry.dropStaleWaiter p q)) :=
      ⟨rfl, rfl, rfl, rfl, rfl, BitVec.le_refl _, id⟩
    dsimp only
    split
    · exact queued.trans (State.await_frame _ _ _)
    · exact queued

theorem State.answerFree_frame (s : State) (h : Header) (r : Resource) : s.InnerFrame (s.answerFree h r) := by
  unfold State.answerFree
  split
  · exact ⟨rfl, rfl, rfl, rfl, rfl, BitVec.le_refl _, fun hn => by simpa [State.withdrawGrants] using hn⟩
  · exact (State.SameBase.refl s).frame

theorem Take.purge_frame (k : Take) (x : Station) : k.state.InnerFrame (k.purge x).state := by
  unfold Take.purge
  refine State.InnerFrame.trans ?_ (Take.foldl_moveToHeld_base _ _).frame
  exact ⟨rfl, rfl, rfl, rfl, rfl, BitVec.le_refl _, fun hn => by simpa [Take.dropHolders, State.withdrawGrants] using hn⟩

/-- The Claim Engine, the Answer Unit, the Roster Unit, the View Table and the Send Scheduler reach no other block. -/
theorem State.Inner.frame {s t : State} (h : s.Inner t) : s.InnerFrame t := by
  cases h with
  | line l h => exact ⟨rfl, rfl, rfl, rfl, rfl, BitVec.le_refl _, fun hn => h.elim id (·.trans hn)⟩
  | clock c h => exact ⟨rfl, rfl, rfl, rfl, rfl, h, id⟩
  | slotCompletes r => exact (s.slotCompletes_base r).frame
  | resendCompletes r => exact ((s.slotCompletes_base r).trans (State.modifyEntry_base _ r _)).frame
  | removed e he hq => exact ⟨rfl, rfl, rfl, rfl, rfl, BitVec.le_refl _, fun hn => by simpa [State.removeEntry] using hn⟩
  | resent r => exact ⟨by simp, by simp, by simp, by simp, by simp, by simp, by simp⟩
  | announced r =>
    exact ((s.markAnnounced_base r).trans (Take.moveToHeld_base (s.markAnnounced r).begin r)).frame
  | freed r e reason he hs => exact ⟨rfl, rfl, rfl, rfl, rfl, BitVec.le_refl _, fun hn => by simpa [State.removeEntry] using hn⟩
  | answered k r x hk => subst hk; exact (k.answered_base r x).frame
  | granted p r q hp state notHeld => exact s.grantClaim_frame p r q
  | freeReceived h r => exact s.answerFree_frame h r
  | purge k x hk => subst hk; exact k.purge_frame x
  | enrol h p new other state =>
    have admitted : s.InnerFrame { s with roster := insertAsc (fun m => m.station.val) (Member.admitted h p) s.roster } :=
      ⟨rfl, rfl, rfl, rfl, rfl, BitVec.le_refl _, id⟩
    exact admitted.trans (State.foldl_await_frame _ _ _)
  | addPeer k r x i src hk => subst hk; exact ⟨rfl, rfl, rfl, rfl, rfl, BitVec.le_refl _, id⟩
  | schedule | requestPresence | presenceDone | withdrawDone | created | releases | deferred | grantDone | members
  | dropPeers | dropUnlisted | dropPeerAt | endWindow => exact ⟨rfl, rfl, rfl, rfl, rfl, BitVec.le_refl _, id⟩

end Sys2Proof.Machine

/-! PROOFS. Every command other than a full reset is a run of moves. -/

namespace Sys2Proof.Machine

/-! ## The start of a frame, and its end in a send fault -/

/-- Sending from an entry's slot does nothing, or makes the hand-over if it is due and puts a CLAIM, HOLD or FREE of the
entry's unsent request on the line. -/
theorem State.sendEntry_cases (s : State) (r : Resource) (k : Slot) :
    s.sendEntry r k = s ∨ ∃ e kind body, (s.handOverIfQueued r).entry? r = some e ∧ e.slot.unsent ≠ none
      ∧ (∀ p, body ≠ .presence p) ∧ body ≠ .withdraw
      ∧ s.sendEntry r k = ((s.handOverIfQueued r).modifyEntry r ClaimEntry.slotSends).startFrame kind body k := by
  unfold State.sendEntry
  dsimp only
  cases he : (s.handOverIfQueued r).entry? r with
  | none => exact .inl rfl
  | some e =>
    dsimp only
    cases hu : e.slot.unsent with
    | none => exact .inl rfl
    | some q =>
      refine .inr ⟨e, ?_⟩
      cases q <;> exact ⟨_, _, rfl, by simp [hu], by simp [ClaimEntry.claimBody], by simp [ClaimEntry.claimBody], rfl⟩

/-- The blocks that what is sent does not reach. -/
structure State.SendFrame (s t : State) : Prop where
  session : t.session = s.session
  answers : t.answers = s.answers
  roster : t.roster = s.roster
  view : t.view = s.view
  standing : t.standing = s.standing
  notices : t.notices = s.notices
  link : t.link = s.link
  pending : t.pending = s.pending

theorem State.handOverIfQueued_frame (s : State) (r : Resource) : s.SendFrame (s.handOverIfQueued r) := by
  unfold State.handOverIfQueued
  split <;> exact ⟨rfl, rfl, rfl, rfl, rfl, rfl, rfl, rfl⟩

theorem State.send_frame (s : State) (c : Choice) (k : Slot) : s.SendFrame (s.send c k) := by
  rcases c with g | (_ | _ | r)
  · exact ⟨rfl, rfl, rfl, rfl, rfl, rfl, rfl, rfl⟩
  · exact ⟨rfl, rfl, rfl, rfl, rfl, rfl, rfl, rfl⟩
  · exact ⟨rfl, rfl, rfl, rfl, rfl, rfl, rfl, rfl⟩
  · obtain same | ⟨_, kind, body, -, -, -, -, sent⟩ := (s.alternate 0).sendEntry_cases r k
    · simp only [State.send, State.sendOwn, same]
      exact ⟨rfl, rfl, rfl, rfl, rfl, rfl, rfl, rfl⟩
    · simp only [State.send, State.sendOwn, sent]
      obtain ⟨h1, h2, h3, h4, h5, h6, h7, h8⟩ := (s.alternate 0).handOverIfQueued_frame r
      exact ⟨h1, h2, h3, h4, h5, h6, h7, h8⟩

/-- R141: a request that waits again reaches the claim table or the Send Scheduler alone. -/
theorem State.returnRequest_frame (s : State) (f : SentFrame) :
    s.SendFrame (s.returnRequest f) ∧ (s.returnRequest f).line = s.line
      ∧ (s.returnRequest f).claims.clock = s.claims.clock := by
  unfold State.returnRequest
  split <;> exact ⟨⟨rfl, rfl, rfl, rfl, rfl, rfl, rfl, rfl⟩, rfl, rfl⟩

/-- What a failed frame leaves before it is counted. -/
def State.frameReturned (s : State) (f : SentFrame) : State :=
  let t := { s with line := s.line.ownFrameEnds .fixed s.line.base }
  if f.live then t.returnRequest f else t

theorem State.frameFails_eq (s : State) (f : SentFrame) : s.frameFails f = (s.frameReturned f).countSendFault := rfl

theorem State.frameReturned_frame (s : State) (f : SentFrame) :
    s.SendFrame (s.frameReturned f) ∧ (s.frameReturned f).line = s.line.ownFrameEnds .fixed s.line.base
      ∧ (s.frameReturned f).claims.clock = s.claims.clock := by
  unfold State.frameReturned
  dsimp only
  split
  · obtain ⟨⟨h1, h2, h3, h4, h5, h6, h7, h8⟩, h9, h10⟩ :=
      State.returnRequest_frame { s with line := s.line.ownFrameEnds .fixed s.line.base } f
    exact ⟨⟨h1, h2, h3, h4, h5, h6, h7, h8⟩, h9, h10⟩
  · exact ⟨⟨rfl, rfl, rfl, rfl, rfl, rfl, rfl, rfl⟩, rfl, rfl⟩

@[simp] theorem State.silence_pending (s : State) : s.silence.pending = s.pending := by simp [State.silence]
@[simp] theorem State.silence_link (s : State) : s.silence.link = s.link := by simp [State.silence]

@[simp] theorem State.countSendFault_pending (s : State) : s.countSendFault.pending = s.pending := by
  unfold State.countSendFault
  split <;> [rfl; (split <;> simp)]

/-! ## What moves leave alone -/

/-- No move reaches the waiting commands. -/
theorem State.Move.pending {s t : State} (h : s.Move t) : t.pending = s.pending := by
  cases h with
  | inner h => exact h.frame.pending
  | counts => simp
  | sends c k => exact (s.send_frame c k).pending
  | fails f h => rw [State.frameFails_eq, State.countSendFault_pending, (s.frameReturned_frame f).1.pending]
  | link | timers | notices | dismissed | progress | recovered | configured | started | startedSilent | leftMember
  | leftAtOnce | windowEnds | lapsed | duplicate | promoted | withdrawn | released => rfl

@[simp] theorem State.takeSilencing_resetAsserted (s : State) :
    s.takeSilencing.session.resetAsserted = s.session.resetAsserted := by
  unfold State.takeSilencing
  split <;> rfl

@[simp] theorem State.countSendFault_resetAsserted (s : State) :
    s.countSendFault.session.resetAsserted = s.session.resetAsserted := by
  unfold State.countSendFault State.silence
  split <;> [rfl; (split <;> simp)]

/-- No move asserts RESET_N. -/
theorem State.Move.resetAsserted {s t : State} (h : s.Move t) (hs : s.session.resetAsserted = false) :
    t.session.resetAsserted = false := by
  cases h with
  | inner h => rw [h.frame.session, hs]
  | counts => simpa using hs
  | sends c k => rw [(s.send_frame c k).session, hs]
  | fails f h => rw [State.frameFails_eq, State.countSendFault_resetAsserted, (s.frameReturned_frame f).1.session, hs]
  | timers c number config state reset => exact reset.trans hs
  | released => rfl
  | link | notices | dismissed | progress | recovered | configured | started | startedSilent | leftMember
  | leftAtOnce | windowEnds | lapsed | duplicate | promoted | withdrawn => exact hs

/-! ## Roster events and received frames -/

theorem Take.modifyMember_reach (k : Take) (x : Station) (f : Member → Member) (hf : ∀ m, (f m).station = m.station) :
    k.state.Reach (k.on fun s => s.modifyMember x f).state := by
  refine (State.Inner.members (fun m => if m.station = x then f m else m) fun m => ?_).reach
  split
  · exact hf m
  · rfl

theorem Take.rosterOther_reach (k : Take) (restart : Member → Member) (h : Header)
    (hr : ∀ m, (restart m).station = m.station) : k.state.Reach (k.rosterOther restart h).1.state := by
  unfold Take.rosterOther
  split
  · exact .refl _
  · split
    · exact k.modifyMember_reach _ _ hr
    · exact (State.Inner.purge k h.source rfl).reach

theorem Take.rosterWithdraw_reach (k : Take) (h : Header) : k.state.Reach (k.rosterWithdraw h).1.state := by
  unfold Take.rosterWithdraw
  split
  · exact .refl _
  · exact (State.Inner.purge k h.source rfl).reach

/-- Moves to HELD leave the roster. -/
theorem Take.purge_roster (k : Take) (x : Station) :
    (k.purge x).state.roster = k.state.roster.filter fun m => m.station != x :=
  (Take.foldl_moveToHeld_base _ _).roster

/-- A purged station is no member. -/
theorem Take.purge_member? (k : Take) (x : Station) : (k.purge x).state.member? x = none := by
  rw [State.member?, Take.purge_roster, List.find?_eq_none]
  simp

theorem Take.rosterPresence_reach (k : Take) (h : Header) (p : Presence) (other : h.source ≠ k.state.session.number)
    (state : k.state.session.state.rosterEmpty = false) : k.state.Reach (k.rosterPresence h p).1.state := by
  unfold Take.rosterPresence
  split
  · rename_i none
    exact (State.Inner.enrol h p none other state).reach
  · split
    · exact k.modifyMember_reach _ _ fun m => rfl
    · have session := (k.purge_frame h.source).session
      exact (State.Inner.purge k h.source rfl).reach.trans
        (State.Inner.enrol h p (k.purge_member? _) (by rwa [session]) (by rwa [session])).reach

/-- The notices that end an event are a move. -/
theorem Take.finish_reach (k : Take) (before : State) (peer : Option NoticeBody) : k.state.Reach (k.finish before peer) :=
  (State.Move.notices _).reach

theorem State.isMember_mem {s : State} {x : Station} {i : Incarnation} (h : s.isMember x i = true) :
    ∃ m ∈ s.roster, m.station = x := by
  obtain ⟨m, hm, -⟩ := Option.any_eq_true _ _ |>.mp h
  exact ⟨m, List.mem_of_find?_eq_some hm, by simpa using List.find?_some hm⟩

/-- A peer's CLAIM is not granted against a HELD entry (R35). -/
theorem answerDecision_grant_notHeld {own p : Station} {t : Clock} {e : ClaimEntry}
    (h : answerDecision own (some e) t p = .grant) : e.state ≠ .held := by
  intro hs
  simp [answerDecision, hs] at h

theorem State.answerClaim_reach (s : State) (h : Header) (r : Resource) (q : ClaimSeq) (t : Clock) :
    s.Reach (s.answerClaim h r q t) := by
  unfold State.answerClaim
  split
  · rename_i answered
    simp only [State.answers?, Bool.and_eq_true, beq_iff_eq] at answered
    obtain ⟨⟨⟨state, -⟩, member⟩, -⟩ := answered
    split
    · rename_i grant
      refine (State.Inner.granted _ r q (State.isMember_mem member) state fun e he => ?_).reach
      exact answerDecision_grant_notHeld (he ▸ grant)
    · exact (State.Inner.deferred _ r q t (State.isMember_mem member)).reach
  · exact .refl s

theorem Take.sweep_reach (k : Take) (h : Header) : k.state.Reach (k.sweep h).state :=
  (State.Inner.dropPeers (Holder.isStale h.source h.incarnation) fun _ => rfl).reach

theorem State.hearOwn_reach (s : State) (h : Header) (p : Presence) : s.Reach (s.hearOwn h p) := by
  have kept (l : List (Station × Incarnation)) (c : SessionController) :
      let d := l.foldl (fun d q => d.report q.2) c
      d.number = c.number ∧ d.config = c.config ∧ d.state = c.state ∧ d.resetAsserted = c.resetAsserted := by
    induction l generalizing c with
    | nil => exact ⟨rfl, rfl, rfl, rfl⟩
    | cons q l ih => exact ih (c.report q.2)
  have reports : s.Move { s with session := s.session.reports p } := by
    unfold SessionController.reports
    split
    · obtain ⟨number, config, state, reset⟩ := kept (ownPairs s.session.number p) s.session
      exact .timers _ number config state reset
    · exact .timers _ rfl rfl rfl rfl
  refine reports.reach.trans (Take.modifyMember_reach { s with session := s.session.reports p }.begin h.source
    (fun m => { m with heardUs := hearsUs (s.session.reports p) p }) fun _ => rfl)

theorem Take.viewPresence_reach (k : Take) (h : Header) (p : Presence) : k.state.Reach (k.viewPresence h p).state := by
  have swept : k.state.Reach ((k.sweep h).on fun s => { s with view := dropUnlisted h.source p.held 0 s.view }).state :=
    (k.sweep_reach h).trans (State.Inner.dropUnlisted _ _).reach
  exact swept.trans (State.Reach.foldl (fun t r => (State.Inner.addPeer t r _ _ _ rfl).reach) p.held _)

theorem State.omission_reach (s : State) (h : Header) (p : Presence) : s.Reach (s.omission h p) := by
  unfold State.omission
  split
  · rename_i omitted
    exact (State.Move.lapsed _ omitted.1).reach
  · exact .refl s

theorem Take.grantReceived_reach (k : Take) (h : Header) (x : Station) (r : Resource) (q : ClaimSeq) :
    k.state.Reach (k.grantReceived h x r q).state := by
  unfold Take.grantReceived
  split
  · exact (State.Inner.answered k r h.source rfl).reach
  · exact .refl _

/-- The kinds, from a station other than the own one, outside SETUP, SILENT and HALTED. -/
theorem State.takeParts_reach (s : State) (f : Frame) (other : f.header.source ≠ s.session.number)
    (state : s.session.state.rosterEmpty = false) : s.Reach (s.takeParts f) := by
  unfold State.takeParts
  split
  case h_1 p _ =>
    refine State.Reach.trans ?_ (State.omission_reach _ _ _)
    refine State.Reach.trans ?_ (Take.finish_reach _ _ _)
    refine State.Reach.trans ?_ (Take.viewPresence_reach _ _ _)
    exact (Take.rosterPresence_reach s.begin f.header p other state).trans (State.hearOwn_reach _ _ _)
  case h_2 r q t _ =>
    refine State.Reach.trans ?_ (Take.finish_reach _ _ _)
    exact (Take.rosterOther_reach s.begin Member.restart f.header fun _ => rfl).trans (State.answerClaim_reach _ _ _ _ _)
  case h_3 x r q _ =>
    refine State.Reach.trans ?_ (Take.finish_reach _ _ _)
    exact (Take.rosterOther_reach s.begin Member.restart f.header fun _ => rfl).trans (Take.grantReceived_reach _ _ _ _ _)
  case h_4 r q _ =>
    refine State.Reach.trans ?_ (Take.finish_reach _ _ _)
    refine State.Reach.trans ?_ (State.Inner.addPeer _ _ _ _ _ rfl).reach
    exact (Take.rosterOther_reach s.begin (Member.restartByHold r) f.header fun _ => rfl).trans (Take.sweep_reach _ _)
  case h_5 r _ _ _ =>
    refine State.Reach.trans ?_ (Take.finish_reach _ _ _)
    refine State.Reach.trans ?_ (State.Inner.freeReceived _ _).reach
    refine State.Reach.trans ?_ (State.Inner.answered _ _ _ rfl).reach
    refine State.Reach.trans ?_ (State.Inner.dropPeerAt r f.header.source).reach
    exact (Take.rosterOther_reach s.begin Member.restart f.header fun _ => rfl).trans (Take.sweep_reach _ _)
  case h_6 =>
    exact (Take.rosterWithdraw_reach s.begin f.header).trans (Take.finish_reach _ _ _)

/-! ## Valid frames and receive faults -/

theorem takeUp_ge (own sender : Clock) : own ≤ takeUp own sender := by
  unfold takeUp
  split
  · exact BitVec.le_of_lt ‹_›
  · exact BitVec.le_refl _

theorem State.takeUpClock_reach (s : State) (c : Clock) : s.Reach (s.takeUpClock c) :=
  (State.Inner.clock _ (takeUp_ge _ _)).reach

theorem State.countValid_reach {s : State} (h : s.session.state ≠ .silent) : s.Reach s.countValid := by
  rw [State.countValid, if_neg h]
  exact (State.Move.counts _ _ (.inl le_rfl) (.inl (Nat.sub_le _ _)) fun _ => rfl).reach

theorem State.validFrame_reach {s : State} (h : Header) (hs : s.session.state ≠ .silent) : s.Reach (s.validFrame h) := by
  refine State.Reach.trans ?_ (State.takeUpClock_reach _ _)
  exact (State.Inner.line (s.line.frameEnd .rotating h.source) (.inr (by rfl))).reach.trans (State.countValid_reach hs)

/-- In SILENT a valid frame counts toward recovery, or completes it. -/
theorem State.takeIn_silent {s : State} (f : Frame) (hs : s.session.state = .silent) :
    let t := { s with line := s.line.frameEnd .rotating f.header.source }.takeUpClock f.header.clock
    s.takeIn f =
      if 48 ≤ s.standing.recoveryFrames + 1 then t.completeRecovery
      else { t with standing := { t.standing with recoveryFrames := s.standing.recoveryFrames + 1, recoveryQuiet := 0 } } := by
  have counted : s.validFrame f.header =
      { { s with line := s.line.frameEnd .rotating f.header.source }.takeUpClock f.header.clock with
        standing := { s.standing with recoveryFrames := s.standing.recoveryFrames + 1, recoveryQuiet := 0 } } := by
    unfold State.validFrame State.countValid
    rw [if_pos hs]
    rfl
  dsimp only
  rw [State.takeIn]
  simp only [hs, if_true, counted, State.recoverByFrames]
  split <;> rfl

theorem State.takeIn_reach {s : State} (f : Frame) (active : s.session.state.receiverActive = true)
    (idle : s.line.onLine = none) : s.Reach (s.takeIn f) := by
  by_cases hs : s.session.state = .silent
  · have timed : s.Reach ({ s with line := s.line.frameEnd .rotating f.header.source }.takeUpClock f.header.clock) :=
      (State.Inner.line (s.line.frameEnd .rotating f.header.source) (.inr (by rfl))).reach.trans (State.takeUpClock_reach _ _)
    rw [State.takeIn_silent f hs]
    refine timed.trans ?_
    split
    · exact (State.Move.recovered (by exact hs)).reach
    · rename_i few
      exact (State.Move.progress _ _ (by exact hs) (.inr (Nat.lt_of_not_le few))).reach
  · have state : s.session.state.rosterEmpty = false := by
      cases h : s.session.state <;> simp_all [StationState.receiverActive, StationState.rosterEmpty]
    rw [State.takeIn]
    simp only [hs, if_false]
    refine (State.validFrame_reach f.header hs).trans ?_
    split
    · exact (State.Move.duplicate (by simpa using active) (by simpa using hs) (by
        rw [(s.validFrame_took f.header hs).line]; exact idle)).reach
    · rename_i other
      exact State.takeParts_reach _ f (by simpa using other) (by simpa using state)

theorem State.takeFault_reach (s : State) : s.Reach s.takeFault := by
  have ended : s.Reach { s with line := s.line.frameEnd .fixed s.line.base } := (State.Inner.line _ (.inr (by rfl))).reach
  refine ended.trans ?_
  unfold State.takeFault State.countReceiveFault
  split
  · rename_i hs
    exact (State.Move.progress 0 0 hs (.inr (by decide))).reach
  · exact (State.Move.counts _ _ (.inl le_rfl) (.inr (Nat.min_le_left _ _)) fun _ => rfl).reach

theorem State.spanEnds_reach {s : State} {take : State → State}
    (h : s.session.state.receiverActive = true → s.line.onLine = none → s.Reach (take s)) : s.Reach (s.spanEnds take) := by
  unfold State.spanEnds
  split
  · exact (State.Inner.line _ (.inr (by rfl))).reach
  · rename_i active
    split
    · exact .refl s
    · rename_i idle
      split
      · exact (State.Inner.line _ (.inr (by rfl))).reach
      · exact h (by simpa using active) (by simpa [State.driverActive] using idle)

theorem State.receive_reach (s : State) (f : Frame) : s.Reach (s.receive f) := by
  refine State.spanEnds_reach fun active idle => ?_
  split
  · exact State.takeIn_reach f active idle
  · exact s.takeFault_reach

theorem State.takeBytes_reach {s : State} (bs : List Byte) (active : s.session.state.receiverActive = true)
    (idle : s.line.onLine = none) : s.Reach (s.takeBytes bs) := by
  unfold State.takeBytes
  split
  · exact State.takeIn_reach _ active idle
  · exact s.takeFault_reach

theorem State.takeActivity_reach {s : State} (a : LineFault) (active : s.session.state.receiverActive = true)
    (idle : s.line.onLine = none) : s.Reach (s.takeActivity a) := by
  cases a with
  | codeViolation => exact s.takeFault_reach
  | cutShort => exact s.takeFault_reach
  | bytes bs => exact State.takeBytes_reach bs active idle
  | cells cs =>
    unfold State.takeActivity
    dsimp only
    split
    · exact State.takeBytes_reach _ active idle
    · exact s.takeFault_reach

/-! ## Ends of own frames -/

theorem State.ownFrameEnds_reach (s : State) (t : RoundType) (b : Station) :
    s.Reach { s with line := s.line.ownFrameEnds t b } := (State.Inner.line _ (.inl rfl)).reach

theorem State.countCompleted_reach (s : State) : s.Reach s.countCompleted := by
  unfold State.countCompleted
  split
  · exact .refl s
  · rename_i sound
    exact (State.Move.counts _ _ (.inl (Nat.sub_le _ _)) (.inl le_rfl) fun h => absurd h sound).reach

theorem State.announce_reach (s : State) (r : Resource) : s.Reach (s.announce r) :=
  (State.Inner.announced r).reach.trans (Take.finish_reach _ _ _)

theorem State.freeCompletes_reach (s : State) (r : Resource) : s.Reach (s.freeCompletes r) := by
  unfold State.freeCompletes
  split
  · exact .refl s
  · rename_i e he
    split
    · rename_i reason hs
      have freed := (State.Inner.freed r e reason he hs).reach
      dsimp only
      split
      · rename_i was
        rw [if_pos was] at freed
        exact (freed.trans (State.Move.notices [.closed r reason none]).reach).trans (State.Move.notices _).reach
      · rename_i was
        rw [if_neg was] at freed
        exact freed.trans (State.Move.notices [.closed r reason none]).reach
    · exact (State.Inner.slotCompletes r).reach
    · exact (State.Inner.slotCompletes r).reach
    · exact (State.Inner.slotCompletes r).reach

theorem State.presenceCompletes_reach {s : State} (idle : s.line.onLine = none) : s.Reach s.presenceCompletes := by
  have timers : s.Reach s.presenceTimers :=
    (State.Move.timers { s.session with ownPresence := some 0 } rfl rfl rfl rfl).reach.trans
      (State.Inner.presenceDone (some s.config.periodMs) (by exact idle)).reach
  unfold State.presenceCompletes
  split
  · rename_i announcing
    exact timers.trans (State.Move.promoted (by exact announcing)).reach
  · exact timers
  all_goals exact (State.Inner.presenceDone _ idle).reach

theorem State.withdrawCompletes_reach {s : State} (idle : s.line.onLine = none) : s.Reach s.withdrawCompletes := by
  have done : s.Reach { s with scheduler := s.scheduler.withdrawDone } := (State.Inner.withdrawDone idle).reach
  unfold State.withdrawCompletes
  dsimp only
  split
  · rename_i leaving
    exact done.trans (State.Move.withdrawn (by exact leaving)).reach
  · exact done

/-- A frame that completes leaves the line, is counted, and goes to its owner. -/
theorem State.completes_reach (s : State) (kind : SentKind) {owner : Frame → State → State}
    (h : ∀ f (t : State), t.line.onLine = none → t.Reach (owner f t)) : s.Reach (s.completes kind owner) := by
  unfold State.completes
  split
  · exact .refl s
  · split
    · have counted := (s.ownFrameEnds_reach .rotating s.session.number).trans (State.countCompleted_reach _)
      dsimp only
      split
      · exact counted.trans (h _ _ (by simp [LineInterface.ownFrameEnds]))
      · exact counted
    · exact .refl s

theorem State.completesAs_reach (s : State) (kind : SentKind) : s.Reach (s.completesAs kind) := by
  cases kind <;> unfold State.completesAs <;> refine s.completes_reach _ fun f t idle => ?_
  · unfold announceOf
    split
    · exact t.announce_reach _
    all_goals exact .refl t
  · unfold resendOf
    split
    · exact (State.Inner.resendCompletes _).reach
    all_goals exact .refl t
  · unfold holdOf
    split
    · exact (State.Inner.slotCompletes _).reach
    all_goals exact .refl t
  · unfold freeOf
    split
    · exact t.freeCompletes_reach _
    all_goals exact .refl t
  · unfold grantOf
    split
    · exact (State.Inner.grantDone _).reach
    all_goals exact .refl t
  · exact State.presenceCompletes_reach idle
  · exact State.withdrawCompletes_reach idle

theorem State.readBack_reach (s : State) (r : ReadBack) : s.Reach (s.readBack r) := by
  unfold State.readBack
  split
  · exact .refl s
  · rename_i f onLine
    split
    · exact (State.Move.fails f onLine).reach
    · exact s.completesAs_reach _
    · exact .refl s

/-! ## The own slot -/

theorem State.slotBegins_reach {s : State} (idle : s.line.onLine = none) : s.Reach s.slotBegins := by
  have passes : s.Reach { s with line := { s.line with phase := .round s.ownSlot } } :=
    (State.Inner.line _ (.inr (by rfl))).reach
  unfold State.slotBegins
  dsimp only
  split
  · rename_i may
    split
    · exact passes
    · rename_i c choice
      exact passes.trans (State.Move.sends c s.ownSlot (by exact idle) (by exact may) (by exact choice)).reach
  · exact passes

/-! ## Expiries and the tick -/

theorem State.forgetMet_reach (s : State) : s.Reach s.forgetMet := (State.Inner.members Member.forgetMet fun _ => rfl).reach

theorem State.joinWindowEnd_reach (s : State) : s.Reach s.joinWindowEnd := by
  have ended : s.Reach s.endWindow :=
    (State.Move.timers { s.session with joinWindow := none, heardSet := [] } rfl rfl rfl rfl).reach.trans
      State.Inner.endWindow.reach
  unfold State.joinWindowEnd
  split
  · rename_i due
    split
    · rename_i role
      exact (ended.trans State.Inner.requestPresence.reach).trans
        (State.Move.windowEnds .announcing (by exact due.1) (.inl ⟨rfl, by exact role⟩)).reach
    · rename_i role
      exact ended.trans (State.Move.windowEnds .observing (by exact due.1) (.inr ⟨rfl, by exact role⟩)).reach
  · exact .refl s

theorem State.ownPresenceLapse_reach (s : State) : s.Reach s.ownPresenceLapse := by
  unfold State.ownPresenceLapse
  split
  · rename_i reached
    simp only [State.ownPresenceReached, Bool.and_eq_true, beq_iff_eq] at reached
    exact (State.Move.lapsed none reached.1).reach
  · exact .refl s

theorem State.lossStep_reach (s : State) : s.Reach s.lossStep := by
  unfold State.lossStep
  split
  · exact (State.Inner.purge s.begin _ rfl).reach.trans (Take.finish_reach _ _ _)
  · refine State.Reach.trans ?_ (Take.finish_reach _ _ _)
    exact (Take.modifyMember_reach s.begin _ Member.forgetMet fun _ => rfl).trans (State.Inner.dropPeerAt _ _).reach
  · exact .refl s

theorem State.patienceStep_reach (s : State) : s.Reach s.patienceStep := by
  unfold State.patienceStep
  split
  · exact .refl s
  · rename_i e he
    have mem := List.mem_of_find?_eq_some he
    have expires := List.find?_some he
    simp only [ClaimEntry.expires, Bool.and_eq_true, Bool.or_eq_true, beq_iff_eq] at expires
    unfold State.expireEntry
    split
    · rename_i queued
      exact (State.Inner.removed e mem queued).reach.trans (State.Move.notices [_]).reach
    · rename_i notQueued
      exact (State.Inner.releases e .expired mem (.inl (expires.1.resolve_left notQueued))).reach

theorem State.resendStep_reach (s : State) : s.Reach s.resendStep := by
  unfold State.resendStep
  split
  · exact .refl s
  · exact (State.Inner.resent _).reach

theorem State.presenceStep_reach (s : State) : s.Reach s.presenceStep := by
  unfold State.presenceStep
  split
  · exact (State.Inner.schedule s.scheduler.alternation none).reach.trans State.Inner.requestPresence.reach
  · exact .refl s

theorem State.recoveryStep_reach (s : State) : s.Reach s.recoveryStep := by
  unfold State.recoveryStep
  split
  · rename_i reached
    simp only [State.quietReached, Bool.and_eq_true, beq_iff_eq] at reached
    exact (State.Move.recovered reached.1).reach
  · exact .refl s

theorem State.settle_reach (s : State) : s.Reach s.settle := by
  have opened : s.Reach s.forgetMet.joinWindowEnd.ownPresenceLapse :=
    (s.forgetMet_reach.trans (State.joinWindowEnd_reach _)).trans (State.ownPresenceLapse_reach _)
  have losses := opened.trans (State.Reach.iterate State.lossStep_reach 31 _)
  have patience := losses.trans (State.Reach.iterate State.patienceStep_reach Config.claimTableSize _)
  have resends := patience.trans (State.Reach.iterate State.resendStep_reach Config.claimTableSize _)
  exact (resends.trans (State.recoveryStep_reach _)).trans (State.presenceStep_reach _)

theorem Member.silent_station (limit : Nat) (m : Member) : (m.silent limit).station = m.station := by
  unfold Member.silent
  split <;> rfl

theorem State.advance_reach (s : State) : s.Reach s.advance := by
  have standing : s.Reach { s with
      standing := s.standing.advance (s.session.state == .silent && s.line.quietTick) s.config.recoveryMs } := by
    unfold StandingMonitor.advance
    split
    · rename_i quiet
      simp only [Bool.and_eq_true, beq_iff_eq] at quiet
      exact (State.Move.progress s.standing.recoveryFrames _ quiet.1 (.inl le_rfl)).reach
    · exact .refl s
  have timers := standing.trans (State.Move.timers (s.session.advance s.config.lapseMs) (by rfl) (by rfl) (by rfl) (by rfl)).reach
  have members := timers.trans (State.Inner.members (Member.silent s.config.lossMs) (Member.silent_station _)).reach
  have due := members.trans
    (State.Inner.schedule s.scheduler.alternation (s.scheduler.presenceDue.map (· - 1))).reach
  exact due.trans (State.Inner.line { s.line with carrierInTick := s.line.busy } (.inr (by rfl))).reach

/-! ## The host's commands and the link -/

theorem hostConfigure_reach (a : ConfigureArgs) (s : State) : s.Reach (hostConfigure a s).1 := by
  unfold hostConfigure
  split
  · exact .refl s
  · rename_i ready
    simp only [not_or, not_not, State.driverActive, Bool.not_eq_true, Option.isSome_eq_false_iff, Option.isNone_iff_eq_none] at ready
    split
    · exact .refl s
    · rename_i c _
      exact (State.Move.configured c ready.1 ready.2).reach

theorem hostStart_reach {s : State} (opened : s.LinkOpen) : s.Reach (hostStart s).1 := by
  unfold hostStart
  split
  · exact .refl s
  · rename_i setup
    rw [not_not] at setup
    split
    · exact .refl s
    · split
      · rename_i silenced
        exact (State.Move.startedSilent setup silenced opened).reach
      · rename_i sound
        exact (State.Move.started setup sound opened).reach

theorem hostLeave_reach (s : State) : s.Reach (hostLeave s).1 := by
  unfold hostLeave
  split
  case h_1 member => exact (State.Move.leftMember member).reach
  case h_2 state => exact (State.Move.leftAtOnce (.inl state)).reach
  case h_3 state => exact (State.Move.leftAtOnce (.inr (.inl state))).reach
  case h_4 state => exact (State.Move.leftAtOnce (.inr (.inr state))).reach
  all_goals exact .refl s

theorem hostClaim_reach (r p : BitVec 16) (s : State) : s.Reach (hostClaim r p s).1 := by
  unfold hostClaim
  split
  · exact .refl s
  · rename_i state
    split
    · exact .refl s
    · rename_i role
      split
      · exact .refl s
      · rename_i r _
        split
        · exact .refl s
        · rename_i passes
          have fresh : s.entry? r = none ∧ s.claims.table.length < 16 := by
            unfold State.claimCheck at passes
            split_ifs at passes with _ _ _ hd hf
            exact ⟨by simpa using hd, Nat.lt_of_not_le hf⟩
          refine (State.Inner.created r (patienceArg p) fresh.1 fresh.2 ?_ role).reach
          exact or_iff_not_and_not.mpr state

theorem hostRelease_reach (r : BitVec 16) (s : State) : s.Reach (hostRelease r s).1 := by
  unfold hostRelease
  split
  · exact .refl s
  · rename_i r _
    split
    · exact .refl s
    · rename_i e he
      split
      case h_3 held =>
        rw [← State.entry?_resource he]
        exact (State.Inner.releases e .released (State.entry?_mem he) (.inr ⟨held, rfl⟩)).reach
      all_goals exact .refl s

theorem hostAbandon_reach (r : BitVec 16) (s : State) : s.Reach (hostAbandon r s).1 := by
  unfold hostAbandon
  split
  · exact .refl s
  · rename_i r _
    split
    · exact .refl s
    · rename_i e he
      split
      case h_1 queued =>
        rw [← State.entry?_resource he]
        exact (State.Inner.removed e (State.entry?_mem he) queued).reach
      case h_2 wanted =>
        rw [← State.entry?_resource he]
        exact (State.Inner.releases e .abandoned (State.entry?_mem he) (.inl wanted)).reach
      all_goals exact .refl s

theorem hostDismiss_reach (n : Byte) (s : State) : s.Reach (hostDismiss n s).1 := by
  unfold hostDismiss
  split
  · exact .refl s
  · rename_i m rest queue
    split
    · exact (State.Move.dismissed m rest queue).reach
    · exact .refl s

theorem State.linkReady_released {s : State} {frame : List Byte} (h : s.linkReady frame = true) :
    s.session.resetAsserted = false := by
  simp only [State.linkReady, Bool.and_eq_true, Bool.not_eq_true'] at h
  exact h.1

/-- An open Link Port may then hold anything. -/
theorem State.Reach.link {s t : State} (h : s.Reach t) (l : LinkPort) (opened : s.LinkOpen) (same : t.link = s.link) :
    s.Reach { t with link := l } := by
  refine h.trans (State.Move.link l fun asserted idle => ?_).reach
  rcases opened with released | busy
  · have still : t.session.resetAsserted = false := h.keeps (fun m => m.resetAsserted) released
    simp [still] at asserted
  · exact absurd (same ▸ idle) busy

theorem State.takeCommand_reach {s : State} (frame : List Byte) {run : State → State × Response} (opened : s.LinkOpen)
    (h : s.Reach (run s).1) (same : (run s).1.link = s.link) : s.Reach (s.takeCommand frame run) :=
  h.link _ opened same

theorem State.takeRepeat_reach {s : State} (frame : List Byte) {run : State → State × Response} (opened : s.LinkOpen)
    (h : s.Reach (run s).1) (same : (run s).1.link = s.link) : s.Reach (s.takeRepeat frame run) :=
  h.link _ opened same

/-! The owners of the host's commands leave the Link Port alone. -/

theorem hostConfigure_link (a : ConfigureArgs) (s : State) : (hostConfigure a s).1.link = s.link := by
  unfold hostConfigure
  split <;> [rfl; (split <;> rfl)]

theorem hostStart_link (s : State) : (hostStart s).1.link = s.link := by
  unfold hostStart
  split_ifs <;> rfl

theorem hostLeave_link (s : State) : (hostLeave s).1.link = s.link := by
  unfold hostLeave
  split <;> rfl

theorem hostClaim_link (r p : BitVec 16) (s : State) : (hostClaim r p s).1.link = s.link := by
  unfold hostClaim
  split_ifs <;> [rfl; rfl; (split <;> [rfl; (split <;> rfl)])]

theorem hostRelease_link (r : BitVec 16) (s : State) : (hostRelease r s).1.link = s.link := by
  unfold hostRelease
  split <;> [rfl; (split <;> [rfl; (split <;> rfl)])]

theorem hostAbandon_link (r : BitVec 16) (s : State) : (hostAbandon r s).1.link = s.link := by
  unfold hostAbandon
  split <;> [rfl; (split <;> [rfl; (split <;> rfl)])]

theorem hostDismiss_link (n : Byte) (s : State) : (hostDismiss n s).1.link = s.link := by
  unfold hostDismiss
  split <;> [rfl; (split <;> rfl)]

theorem hostFetch_same (s : State) : (hostFetch s).1 = s := by unfold hostFetch; split <;> rfl
theorem hostQuery_same (r : BitVec 16) (s : State) : (hostQuery r s).1 = s := by unfold hostQuery; split <;> rfl
theorem hostPeer_same (x : Byte) (s : State) : (hostPeer x s).1 = s := by
  unfold hostPeer
  split <;> [rfl; (split <;> rfl)]

theorem State.runCommand_reach {s : State} (c : Instr) (opened : s.LinkOpen) :
    s.Reach (s.runCommand c) := by
  unfold State.runCommand
  cases c with
  | configure a => exact State.takeCommand_reach _ opened (hostConfigure_reach a s) (hostConfigure_link a s)
  | start => exact State.takeCommand_reach _ opened (hostStart_reach opened) (hostStart_link s)
  | leave => exact State.takeCommand_reach _ opened (hostLeave_reach s) (hostLeave_link s)
  | claim r p => exact State.takeCommand_reach _ opened (hostClaim_reach r p s) (hostClaim_link r p s)
  | release r => exact State.takeCommand_reach _ opened (hostRelease_reach r s) (hostRelease_link r s)
  | abandon r => exact State.takeCommand_reach _ opened (hostAbandon_reach r s) (hostAbandon_link r s)
  | query r => exact State.takeCommand_reach _ opened (by rw [hostQuery_same]; exact .refl s) (by rw [hostQuery_same])
  | roster => exact State.takeCommand_reach _ opened (.refl s) rfl
  | peer x => exact State.takeCommand_reach _ opened (by rw [hostPeer_same]; exact .refl s) (by rw [hostPeer_same])
  | fetch => exact State.takeCommand_reach _ opened (by rw [hostFetch_same]; exact .refl s) (by rw [hostFetch_same])
  | dismiss n => exact State.takeCommand_reach _ opened (hostDismiss_reach n s) (hostDismiss_link n s)
  | status => exact State.takeCommand_reach _ opened (.refl s) rfl
  | repeatLast => exact State.takeRepeat_reach _ opened (.refl s) rfl
  | _ => exact .refl s

theorem State.checkByte_reach {s : State} (frame : List Byte) (check : Byte) (opened : s.LinkOpen) :
    s.Reach (s.checkByte frame check) := by
  unfold State.checkByte
  split
  · exact (State.Reach.refl s).link _ opened rfl
  · exact State.runCommand_reach _ opened

/-- A host command as a row: the command itself where its check byte can complete. -/
theorem State.hostStep_reach (s : State) (frame : List Byte) (c : Instr) :
    ∃ t, s.hostStep frame (fun u => u.runCommand c) = .next t ∧ s.Reach t := by
  refine ⟨_, rfl, ?_⟩
  split
  · rename_i ready
    exact State.runCommand_reach c (.inl (State.linkReady_released ready))
  · exact .refl s

theorem execLinkTransactionError_reach (frame : List Byte) (check : Byte) (s : State) :
    ∃ t, execLinkTransactionError frame check s = .next t ∧ s.Reach t := by
  refine ⟨_, rfl, ?_⟩
  split
  · rename_i ready
    rw [Bool.and_eq_true] at ready
    exact State.checkByte_reach _ _ (.inl (State.linkReady_released ready.1))
  · exact .refl s

theorem execTransactionBegin_reach (s : State) : ∃ t, execTransactionBegin s = .next t ∧ s.Reach t := by
  refine ⟨_, rfl, ?_⟩
  split
  · exact .refl s
  · split
    · exact (State.Move.link { s.link with selected := true } fun _ idle => idle).reach
    · rename_i released
      exact (State.Move.link _ fun asserted => absurd asserted released).reach

theorem execTransactionEnd_reach (s : State) : ∃ t, execTransactionEnd s = .next t ∧ s.Reach t := by
  refine ⟨_, rfl, ?_⟩
  split
  · exact (State.Move.link _ fun _ _ => rfl).reach
  · exact .refl s

theorem execByteClocked_reach (b : Byte) (s : State) : ∃ t, execByteClocked b s = .next t ∧ s.Reach t := by
  have opened {p : LinkPhase} (hp : s.link.phase = p) (busy : p ≠ .idle) (l : LinkPort) : s.Reach { s with link := l } :=
    (State.Reach.refl s).link l (.inr (hp ▸ busy)) rfl
  refine ⟨_, rfl, ?_⟩
  split
  · exact .refl s
  · rename_i command
    split
    · exact State.checkByte_reach _ _ (.inr (by simp [command]))
    · exact opened command (by simp) _
  · rename_i turnaround
    exact opened turnaround (by simp) _
  · rename_i response
    exact opened response (by simp) _
  · rename_i done
    exact opened done (by simp) _

/-! ## Every command -/

theorem execCarrierDetected_reach (s : State) : ∃ t, execCarrierDetected s = .next t ∧ s.Reach t := by
  have carrier : s.Reach { s with standing := s.carrierAtRecovery } := by
    unfold State.carrierAtRecovery
    split
    · rename_i silent
      exact (State.Move.progress s.standing.recoveryFrames 0 silent (.inl le_rfl)).reach
    · exact .refl s
  refine ⟨_, rfl, ?_⟩
  split
  · exact .refl s
  · exact carrier.trans (State.Inner.line _ (.inr (by rfl))).reach

/-- Every command other than a full reset makes a run of moves. -/
theorem exec_reach (c : Instr) (s : State) (h : c ≠ .fullReset) : ∃ t, exec c s = .next t ∧ s.Reach t := by
  cases c with
  | configure a => exact s.hostStep_reach _ (.configure a)
  | start => exact s.hostStep_reach _ .start
  | leave => exact s.hostStep_reach _ .leave
  | claim r p => exact s.hostStep_reach _ (.claim r p)
  | release r => exact s.hostStep_reach _ (.release r)
  | abandon r => exact s.hostStep_reach _ (.abandon r)
  | query r => exact s.hostStep_reach _ (.query r)
  | roster => exact s.hostStep_reach _ .roster
  | peer x => exact s.hostStep_reach _ (.peer x)
  | fetch => exact s.hostStep_reach _ .fetch
  | dismiss n => exact s.hostStep_reach _ (.dismiss n)
  | status => exact s.hostStep_reach _ .status
  | repeatLast => exact s.hostStep_reach _ .repeatLast
  | linkTransactionError frame check => exact execLinkTransactionError_reach frame check s
  | transactionBegin => exact execTransactionBegin_reach s
  | transactionEnd => exact execTransactionEnd_reach s
  | fullReset => exact absurd rfl h
  | resetRelease straps =>
    refine ⟨_, rfl, ?_⟩
    split
    · rename_i asserted
      exact (State.Move.released straps asserted).reach
    · exact .refl s
  | tick =>
    refine ⟨_, rfl, ?_⟩
    split
    · exact .refl s
    · exact s.settle_reach.trans (State.advance_reach _)
  | receivePresence h p => exact ⟨_, rfl, s.receive_reach _⟩
  | receiveClaim h r q t => exact ⟨_, rfl, s.receive_reach _⟩
  | receiveGrant h x r q => exact ⟨_, rfl, s.receive_reach _⟩
  | receiveHold h r q => exact ⟨_, rfl, s.receive_reach _⟩
  | receiveFree h r q reason => exact ⟨_, rfl, s.receive_reach _⟩
  | receiveWithdraw h => exact ⟨_, rfl, s.receive_reach _⟩
  | receiveFault a => exact ⟨_, rfl, State.spanEnds_reach fun active idle => State.takeActivity_reach a active idle⟩
  | carrierDetected => exact execCarrierDetected_reach s
  | quietGapElapsed =>
    refine ⟨_, rfl, ?_⟩
    split
    · exact (State.Inner.line _ (.inr (by rfl))).reach
    · exact .refl s
  | ownSlot =>
    refine ⟨_, rfl, ?_⟩
    split
    · rename_i begins
      simp only [State.driverActive, Bool.and_eq_true, Bool.not_eq_true', Option.isSome_eq_false_iff,
        Option.isNone_iff_eq_none] at begins
      exact State.slotBegins_reach begins.2
    · exact .refl s
  | sendFault r => exact ⟨_, rfl, s.readBack_reach r⟩
  | claimFrameComplete => exact ⟨_, rfl, s.completesAs_reach _⟩
  | claimResendComplete => exact ⟨_, rfl, s.completesAs_reach _⟩
  | holdComplete => exact ⟨_, rfl, s.completesAs_reach _⟩
  | freeComplete => exact ⟨_, rfl, s.completesAs_reach _⟩
  | grantComplete => exact ⟨_, rfl, s.completesAs_reach _⟩
  | presenceComplete => exact ⟨_, rfl, s.completesAs_reach _⟩
  | withdrawComplete => exact ⟨_, rfl, s.completesAs_reach _⟩
  | joinWindowEnd => exact ⟨_, rfl, s.joinWindowEnd_reach⟩
  | ownPresenceLapse => exact ⟨_, rfl, s.ownPresenceLapse_reach⟩
  | loss => exact ⟨_, rfl, s.lossStep_reach⟩
  | patienceExpiry => exact ⟨_, rfl, s.patienceStep_reach⟩
  | resendDue => exact ⟨_, rfl, s.resendStep_reach⟩
  | presenceDue => exact ⟨_, rfl, s.presenceStep_reach⟩
  | recoveryQuietSpan => exact ⟨_, rfl, s.recoveryStep_reach⟩
  | byteClocked b => exact execByteClocked_reach b s
  | endOfUncountedActivity =>
    refine ⟨_, rfl, ?_⟩
    split
    · exact (State.Inner.line _ (.inr (by rfl))).reach
    · exact .refl s

/-! ## Every step -/

/-- The part after a full reset (R76). -/
def State.fullReset (s : State) : State :=
  { State.reset with
    session := { SessionController.reset with resetAsserted := true }
    line := s.line.underReset
    link := { LinkPort.reset with selected := s.link.selected }
    pending := s.pending }

theorem exec_fullReset (s : State) : exec .fullReset s = .next s.fullReset := rfl

@[simp] theorem LineInterface.underReset_onLine (l : LineInterface) : l.underReset.onLine = none := by
  unfold LineInterface.underReset
  split <;> rfl

/-- What a step can do: nothing on an empty queue, a full reset, or a run of moves on the queue's rest. -/
theorem step_cases {s t : State} (h : step s = .next t) :
    t = s ∨ (∃ rest, s.pending = .fullReset :: rest ∧ t = { s with pending := rest }.fullReset)
      ∨ ∃ rest, { s with pending := rest }.Reach t := by
  unfold step at h
  split at h
  · cases h
    exact .inl rfl
  · rename_i c rest front
    by_cases hc : c = .fullReset
    · subst hc
      rw [exec_fullReset] at h
      cases h
      exact .inr (.inl ⟨rest, front, rfl⟩)
    · obtain ⟨u, hu, reach⟩ := exec_reach c { s with pending := rest } hc
      rw [hu] at h
      cases h
      exact .inr (.inr ⟨rest, reach⟩)

/-- A law that reads no waiting command, holds after a full reset and is kept by every move is kept by every step. -/
theorem step_keeps {P : State → Prop} (queue : ∀ (s : State) q, P s → P { s with pending := q })
    (reset : ∀ s : State, P s.fullReset) (move : ∀ {s t : State}, s.Move t → P s → P t) {s t : State} (hs : P s)
    (h : step s = .next t) : P t := by
  obtain rfl | ⟨rest, -, rfl⟩ | ⟨rest, reach⟩ := step_cases h
  · exact hs
  · exact reset _
  · exact reach.keeps move (queue s rest hs)

/-- Settles O2: a full reset and every run of moves leave the waiting commands. -/
theorem everyCommandCompletes : Obligations.EveryCommandCompletes := by
  intro c s
  by_cases hc : c = .fullReset
  · subst hc
    exact ⟨_, exec_fullReset s, rfl⟩
  · obtain ⟨t, next, reach⟩ := exec_reach c s hc
    exact ⟨t, next, reach.keeps (P := fun u => u.pending = s.pending) (fun m h => m.pending.trans h) rfl⟩

end Sys2Proof.Machine

/-! PROOFS. The laws of the notice queue, the fault counts and the claim clock are kept by every move (R1, R149, R162). -/

namespace Sys2Proof.Machine

/-! ## The notice queue -/

/-- R168: the SUMMARY of the first set mark takes the place that the head has freed, and clears the mark. -/
theorem NoticeQueue.Lawful.summarise {s : State} {n : Notice} {rest : List Notice} (h : s.notices.Lawful)
    (queue : s.notices.queue = n :: rest) : (s.summarise { s.notices with queue := rest }).Lawful := by
  obtain ⟨bounded, numbered, marksNeedFull, -, stations, resources⟩ := h
  have room : rest.length + 1 ≤ 32 := by simpa [queue] using bounded
  have tail : Numbered rest s.notices.next := by
    rw [queue] at numbered
    exact numbered.2
  have full (hm : s.notices.marksPending = true) : rest.length + 1 = 32 := by simpa [queue] using marksNeedFull hm
  unfold State.summarise
  dsimp only
  split
  · rename_i session
    refine ⟨by simpa [NoticeQueue.enter] using room, tail.append _, fun _ => ?_, by simp [NoticeQueue.enter], stations,
      resources⟩
    simpa [NoticeQueue.enter] using full (by simp [NoticeQueue.marksPending, session])
  · split
    · rename_i x more marks
      rw [marks] at stations
      refine ⟨by simpa [NoticeQueue.enter] using room, tail.append _, fun _ => ?_, by simp [NoticeQueue.enter],
        (List.pairwise_cons.mp stations).2, resources⟩
      simpa [NoticeQueue.enter] using full (by simp [NoticeQueue.marksPending, marks])
    · rename_i noStation
      split
      · rename_i r more marks
        rw [marks] at resources
        refine ⟨by simpa [NoticeQueue.enter] using room, tail.append _, fun _ => ?_, by simp [NoticeQueue.enter], stations,
          (List.pairwise_cons.mp resources).2⟩
        simpa [NoticeQueue.enter] using full (by simp [NoticeQueue.marksPending, marks])
      · rename_i noResource
        refine ⟨by simp only; omega, tail, fun hm => ?_, rfl, stations, resources⟩
        simp_all [NoticeQueue.marksPending]

theorem NoticeQueue.Lawful.setCounts {s : State} (h : s.notices.Lawful) (a b : Nat) : (s.setCounts a b).notices.Lawful := by
  rw [State.setCounts_notices]
  split
  · exact h
  · exact h.give _

theorem NoticeQueue.Lawful.endSession {s : State} (h : s.notices.Lawful) (c : SessionCause) :
    (s.endSession c).notices.Lawful := h.giveAll _

theorem NoticeQueue.Lawful.silence {s : State} (h : s.notices.Lawful) : s.silence.notices.Lawful := by
  unfold State.silence State.takeSilencing
  split
  · exact ((h.give _).giveAll _).give _
  · exact ((h.give _).giveAll _).give _
  · exact ((h.give _).giveAll _).give _
  · exact ((h.give _).giveAll _).give _
  all_goals exact h.give _

theorem NoticeQueue.Lawful.countSendFault {s : State} (h : s.notices.Lawful) : s.countSendFault.notices.Lawful := by
  unfold State.countSendFault
  split
  · exact h
  · split
    · exact h.silence
    · exact h.setCounts _ _

/-- Every move gives notices, or dismisses the head, or leaves the queue. -/
theorem State.Move.notices_lawful {s t : State} (m : s.Move t) (h : s.notices.Lawful) : t.notices.Lawful := by
  cases m with
  | inner m => exact m.frame.notices ▸ h
  | notices bs => exact h.giveAll bs
  | dismissed n rest queue => exact h.summarise queue
  | counts a b => exact h.setCounts a b
  | recovered => exact (h.give _).give _
  | started => exact h.give _
  | startedSilent => exact h.give _
  | leftMember => exact (h.giveAll _).give _
  | leftAtOnce => exact h.give _
  | windowEnds => exact h.give _
  | lapsed => exact (h.endSession _).give _
  | duplicate => exact (h.endSession _).give _
  | promoted => exact h.give _
  | withdrawn => exact h.give _
  | sends c k => rw [(s.send_frame c k).notices]; exact h
  | fails f =>
    rw [State.frameFails_eq]
    exact NoticeQueue.Lawful.countSendFault ((s.frameReturned_frame f).1.notices ▸ h)
  | link | timers | progress | configured | released => exact h

/-- Full reset leaves an empty queue (R162). -/
theorem NoticeQueue.lawful_reset : NoticeQueue.reset.Lawful :=
  ⟨by decide, trivial, by decide, rfl, List.Pairwise.nil, List.Pairwise.nil⟩

/-- Settles O53. -/
theorem everyStepKeepsTheNoticeQueueLaws : Obligations.EveryStepKeepsTheNoticeQueueLaws := fun _ _ =>
  step_keeps (P := fun s => s.notices.Lawful) (fun _ _ h => h) (fun _ => NoticeQueue.lawful_reset) State.Move.notices_lawful

/-! ## The fault counts -/

/-- R152: the standing that is derived from counts in range is lawful. -/
theorem StandingMonitor.Lawful.derive {m : StandingMonitor} (h : m.Lawful) {a b : Nat} (ha : a ≤ 240) (hb : b ≤ 240)
    (silenced : m.standing = .silenced → a = m.sendFaults) :
    StandingMonitor.Lawful
      { m with sendFaults := a, receiveFaults := b, standing := deriveStanding m.standing a b } := by
  obtain ⟨-, -, -, silencedFull, progressBelow⟩ := h
  refine ⟨ha, hb, fun awake => ?_, fun asleep => ?_, progressBelow⟩
  · cases hm : m.standing with
    | silenced => simp [hm, deriveStanding] at awake
    | sound | impaired => simp [deriveStanding, Config.impairedAt]
  · cases hm : m.standing with
    | silenced => exact (silenced hm).trans (silencedFull hm)
    | sound | impaired =>
      simp only [hm, deriveStanding] at asleep
      split at asleep <;> cases asleep

theorem StandingMonitor.Lawful.progress {m : StandingMonitor} (h : m.Lawful) {frames : Nat} (below : frames < 48)
    (quiet : Nat) : StandingMonitor.Lawful { m with recoveryFrames := frames, recoveryQuiet := quiet } :=
  ⟨h.sendBounded, h.receiveBounded, h.derived, h.silencedFull, below⟩

/-- R153: silencing takes the send fault count to 240. -/
theorem State.silence_standing (s : State) :
    s.silence.standing = { s.standing.noProgress with sendFaults := 240, standing := .silenced } := by
  simp [State.silence]

theorem StandingMonitor.Lawful.countSendFault {s : State} (h : s.standing.Lawful) : s.countSendFault.standing.Lawful := by
  unfold State.countSendFault
  split
  · exact h
  · rename_i awake
    split
    · rw [State.silence_standing]
      exact ⟨le_rfl, h.receiveBounded, fun awake => absurd rfl awake, fun _ => rfl, by simp [StandingMonitor.noProgress]⟩
    · rename_i room
      rw [State.setCounts_standing]
      exact h.derive (Nat.le_of_not_lt room) h.receiveBounded fun asleep => absurd asleep awake

theorem StandingMonitor.lawful_reset : StandingMonitor.reset.Lawful :=
  ⟨by decide, by decide, by decide, by decide, by decide⟩

/-- Every move counts within the bounds, or leaves the standing. -/
theorem State.Move.standing_lawful {s t : State} (m : s.Move t) (h : s.standing.Lawful) : t.standing.Lawful := by
  cases m with
  | inner m => exact m.frame.standing ▸ h
  | counts a b ha hb silenced =>
    rw [State.setCounts_standing]
    have hs := h.sendBounded
    have hr := h.receiveBounded
    exact h.derive (by omega) (by omega) silenced
  | progress frames quiet state below =>
    have := h.progressBelow
    exact h.progress (by omega) quiet
  | recovered => exact StandingMonitor.lawful_reset
  | startedSilent => exact h.progress (by decide) 0
  | sends c k => rw [(s.send_frame c k).standing]; exact h
  | fails f =>
    rw [State.frameFails_eq]
    exact StandingMonitor.Lawful.countSendFault ((s.frameReturned_frame f).1.standing ▸ h)
  | link | timers | notices | dismissed | configured | started | leftMember | leftAtOnce | windowEnds | lapsed | duplicate
  | promoted | withdrawn | released => exact h

/-- Settles O54. -/
theorem everyStepKeepsTheStandingLaws : Obligations.EveryStepKeepsTheStandingLaws := fun _ _ =>
  step_keeps (P := fun s => s.standing.Lawful) (fun _ _ h => h) (fun _ => StandingMonitor.lawful_reset)
    State.Move.standing_lawful

/-! ## The claim clock -/

/-- R2: a clock that is not exhausted rises by 1. -/
theorem clock_le_succ {c : Clock} (h : exhausted c = false) : c ≤ c + 1 := by
  have top : c ≠ 0xFFFFFFFFFFFF := by simpa [exhausted, Config.clockTop] using h
  bv_omega

/-- A first CLAIM that is chosen is not held back: the clock of a QUEUED entry's hand-over is not exhausted (R145). -/
theorem State.slotClass_of_choice {s : State} {n : SlotName} (h : s.choice = some (.own n)) :
    n ∈ s.scheduler.order ∧ ∃ c, s.slotClass n = some c := by
  have first : s.firstOwn = some n := by
    unfold State.choice at h
    split at h <;> simp_all
    split at h <;> simp_all
  obtain ⟨c, -, found⟩ := List.exists_of_findSome?_eq_some first
  exact ⟨List.mem_of_find?_eq_some found, c, by simpa using List.find?_some found⟩

theorem State.not_exhausted_of_choice {s : State} {r : Resource} {e : ClaimEntry} (h : s.choice = some (.own (.entry r)))
    (he : s.entry? r = some e) (queued : e.state = .queued) (first : e.slot.unsent = some .firstClaim) :
    exhausted s.claims.clock = false := by
  obtain ⟨-, c, hc⟩ := State.slotClass_of_choice h
  simp only [State.slotClass, he, Option.bind_some, State.requestClass, first] at hc
  split at hc
  · cases hc
  · rename_i eligible
    simpa [queued] using fun top => eligible ⟨queued, .inr top⟩

/-- Sending lowers no clock: the hand-over alone moves it, by 1. -/
theorem State.send_clock {s : State} {c : Choice} (k : Slot) (h : s.choice = some c) :
    s.claims.clock ≤ (s.send c k).claims.clock := by
  rcases c with g | (_ | _ | r)
  · exact BitVec.le_refl _
  · exact BitVec.le_refl _
  · exact BitVec.le_refl _
  · have handed : s.claims.clock ≤ ((s.alternate 0).handOverIfQueued r).claims.clock := by
      unfold State.handOverIfQueued
      split
      · rename_i due
        obtain ⟨e, he, hq⟩ := (Option.any_eq_true _ _).mp due
        simp only [Bool.and_eq_true, beq_iff_eq] at hq
        exact clock_le_succ (State.not_exhausted_of_choice h he hq.1 hq.2)
      · exact BitVec.le_refl _
    obtain same | ⟨_, kind, body, -, -, -, -, sent⟩ := (s.alternate 0).sendEntry_cases r k
    · simp only [State.send, State.sendOwn, same]
      exact BitVec.le_refl _
    · simp only [State.send, State.sendOwn, sent]
      exact handed

@[simp] theorem State.takeSilencing_clock (s : State) : s.takeSilencing.claims.clock = s.claims.clock := by
  unfold State.takeSilencing
  split <;> simp

@[simp] theorem State.silence_clock (s : State) : s.silence.claims.clock = s.claims.clock := by simp [State.silence]

@[simp] theorem State.countSendFault_clock (s : State) : s.countSendFault.claims.clock = s.claims.clock := by
  unfold State.countSendFault
  split <;> [rfl; (split <;> simp)]

/-- No move lowers the clock. -/
theorem State.Move.clock {s t : State} (m : s.Move t) : s.claims.clock ≤ t.claims.clock := by
  cases m with
  | inner m => exact m.frame.clock
  | counts => simp
  | sends c k idle may choice => exact State.send_clock k choice
  | fails f =>
    rw [State.frameFails_eq, State.countSendFault_clock, (s.frameReturned_frame f).2.2]
    exact BitVec.le_refl _
  | link | timers | notices | dismissed | progress | recovered | configured | started | startedSilent | leftMember
  | leftAtOnce | windowEnds | lapsed | duplicate | promoted | withdrawn | released => exact BitVec.le_refl _

/-- Settles O60. -/
theorem theClockNeverDecreases : Obligations.TheClockNeverDecreases := by
  intro s t noReset h
  obtain rfl | ⟨rest, front, -⟩ | ⟨rest, reach⟩ := step_cases h
  · exact BitVec.le_refl _
  · exact absurd front (noReset rest)
  · exact reach.keeps (P := fun u => s.claims.clock ≤ u.claims.clock) (fun m low => BitVec.le_trans low m.clock)
      (BitVec.le_refl _)

end Sys2Proof.Machine

/-! PROOFS. The laws of the observer, of SILENCED and of the roster are kept by every move (R50, R72, R92, R149, R155). -/

namespace Sys2Proof.Machine

/-! ## Where silencing takes the station -/

/-- R88: the station state after a silencing. -/
def StationState.silenced : StationState → StationState
  | .member | .announcing | .listening => .silent
  | .leaving => .setup
  | .setup => .setup
  | .observing => .observing
  | .silent => .silent
  | .halted => .halted

theorem State.takeSilencing_state (s : State) : s.takeSilencing.session.state = s.session.state.silenced := by
  unfold State.takeSilencing
  split <;> rename_i h <;> simp [h, StationState.silenced]

theorem State.silence_state (s : State) : s.silence.session.state = s.session.state.silenced :=
  State.takeSilencing_state _

theorem State.takeSilencing_session (s : State) :
    s.takeSilencing.session.number = s.session.number ∧ s.takeSilencing.session.config = s.session.config := by
  unfold State.takeSilencing
  split <;> exact ⟨rfl, rfl⟩

/-- R88: the three things that a silencing can do to a session. -/
theorem State.takeSilencing_cases (s : State) :
    s.takeSilencing = (s.endSession .silenced).enterState .silent .silenced none
      ∨ s.takeSilencing = (s.endSession .silenced).deactivate.enterState .setup .silenced none
      ∨ s.takeSilencing = s := by
  unfold State.takeSilencing
  split
  case h_4 => exact .inr (.inl rfl)
  case h_1 | h_2 | h_3 => exact .inl rfl
  all_goals exact .inr (.inr rfl)

theorem State.takeSilencing_onLine {s : State} (h : s.line.onLine = none) : s.takeSilencing.line.onLine = none := by
  have cleared (p : SentFrame → Bool) : (s.line.cutLoose p).onLine = none := LineInterface.cutLoose_onLine_eq_none.mpr h
  obtain silent | setup | same := s.takeSilencing_cases
  · rw [silent]
    exact cleared _
  · rw [setup]
    exact cleared _
  · rwa [same]

theorem State.takeSilencing_roster (s : State) :
    s.takeSilencing.roster = [] ∨ s.takeSilencing.roster = s.roster ∧ s.takeSilencing.session = s.session := by
  obtain silent | setup | same := s.takeSilencing_cases
  · exact .inl (by rw [silent]; rfl)
  · exact .inl (by rw [setup]; rfl)
  · exact .inr (by rw [same]; exact ⟨rfl, rfl⟩)

/-! ## The observer and SILENCED -/

/-- The law reads the station state, the configuration, the standing and the line alone. -/
theorem State.SilenceLawful.of_parts {s t : State} (h : s.SilenceLawful) (state : t.session.state = s.session.state)
    (config : t.session.config = s.session.config) (line : s.line.onLine = none → t.line.onLine = none)
    (silenced : t.standing.standing = .silenced ↔ s.standing.standing = .silenced)
    (progress : t.session.state ≠ .silent → t.standing.recoveryFrames = s.standing.recoveryFrames
      ∧ t.standing.recoveryQuiet = s.standing.recoveryQuiet) : t.SilenceLawful := by
  have role : t.config.role = s.config.role := by simp [State.config, config]
  refine ⟨fun ho => ?_, fun ho => ?_, fun hh => ?_, fun hs => ?_, fun hs => ?_, fun hs => ?_, fun hs => ?_⟩
  · obtain ⟨quiet, mute⟩ := h.observer (role ▸ ho)
    exact ⟨line quiet, state ▸ mute⟩
  · exact role ▸ h.observing (state ▸ ho)
  · exact line (h.haltedQuiet (state ▸ hh))
  · exact silenced.mpr (h.silentIsSilenced (state ▸ hs))
  · exact state ▸ h.silencedStates (silenced.mp hs)
  · exact line (h.silencedQuiet (silenced.mp hs))
  · obtain ⟨frames, quiet⟩ := progress hs
    rw [frames, quiet]
    exact h.progressOnlySilent (state ▸ hs)

/-- Outside SETUP and SILENT the station is not silenced. -/
theorem State.SilenceLawful.awake {s : State} (h : s.SilenceLawful) (setup : s.session.state ≠ .setup)
    (silent : s.session.state ≠ .silent) : s.standing.standing ≠ .silenced := fun hs =>
  (h.silencedStates hs).elim setup silent

/-- A station that is not silenced, in the state `st`: what it may send it may send as a contender. -/
theorem State.SilenceLawful.of_awake {s t : State} (h : s.SilenceLawful) {st : StationState} (state : t.session.state = st)
    (config : t.session.config = s.session.config) (line : s.line.onLine = none → t.line.onLine = none)
    (awake : t.standing.standing ≠ .silenced) (silent : st ≠ .silent) (halted : st = .halted → t.line.onLine = none)
    (observing : st = .observing → s.config.role = .observer) (sends : st.maySend = true → s.config.role ≠ .observer)
    (progress : t.standing.recoveryFrames = 0 ∧ t.standing.recoveryQuiet = 0) : t.SilenceLawful := by
  have role : t.config.role = s.config.role := by simp [State.config, config]
  subst state
  refine ⟨fun ho => ⟨line (h.observer (role ▸ ho)).1, ?_⟩, fun ho => role ▸ observing ho, halted, fun hs => absurd hs silent,
    fun hs => absurd hs awake, fun hs => absurd hs awake, fun _ => progress⟩
  rw [← Bool.not_eq_true]
  exact fun may => sends may (role ▸ ho)

/-- R153: silencing a station that had a frame on the line. -/
theorem State.SilenceLawful.silence {s : State} (observing : s.session.state ≠ .observing) (halted : s.session.state ≠ .halted)
    (idle : s.line.onLine = none) : s.silence.SilenceLawful := by
  have quiet : s.silence.line.onLine = none := State.takeSilencing_onLine idle
  have state := s.silence_state
  have standing := s.silence_standing
  have states : s.silence.session.state = .setup ∨ s.silence.session.state = .silent := by
    rw [state]
    cases hs : s.session.state <;> simp_all [StationState.silenced]
  refine ⟨fun _ => ⟨quiet, ?_⟩, fun ho => ?_, fun _ => quiet, fun _ => by rw [standing], fun _ => states, fun _ => quiet,
    fun _ => by rw [standing]; exact ⟨rfl, rfl⟩⟩
  · rcases states with h | h <;> rw [h] <;> rfl
  · rcases states with h | h <;> rw [h] at ho <;> cases ho

theorem deriveStanding_silenced {st : Standing} {a b : Nat} : deriveStanding st a b = .silenced ↔ st = .silenced := by
  cases st <;> simp [deriveStanding] <;> split <;> simp

theorem State.SilenceLawful.setCounts {s : State} (h : s.SilenceLawful) (a b : Nat) : (s.setCounts a b).SilenceLawful :=
  h.of_parts (by simp) (by simp) (by simp) (by rw [State.setCounts_standing]; exact deriveStanding_silenced)
    fun _ => by rw [State.setCounts_standing]; exact ⟨rfl, rfl⟩

/-- A frame that fails was on the line, so that the station is no observer, not HALTED and not silenced. -/
theorem State.SilenceLawful.frameFails {s : State} {f : SentFrame} (h : s.SilenceLawful) (onLine : s.line.onLine = some f) :
    (s.frameFails f).SilenceLawful := by
  have busy : s.line.onLine ≠ none := by simp [onLine]
  have awake : s.standing.standing ≠ .silenced := fun hs => busy (h.silencedQuiet hs)
  obtain ⟨kept, line, -⟩ := s.frameReturned_frame f
  have idle : (s.frameReturned f).line.onLine = none := by rw [line]; rfl
  have returned : (s.frameReturned f).SilenceLawful :=
    h.of_parts (by rw [kept.session]) (by rw [kept.session]) (fun _ => idle) (by rw [kept.standing])
      fun _ => by rw [kept.standing]; exact ⟨rfl, rfl⟩
  rw [State.frameFails_eq, State.countSendFault, if_neg (by rwa [kept.standing])]
  split
  · refine State.SilenceLawful.silence ?_ ?_ idle
    · rw [kept.session]
      exact fun ho => busy (h.observer (h.observing ho)).1
    · rw [kept.session]
      exact fun hh => busy (h.haltedQuiet hh)
  · exact returned.setCounts _ _

/-- Every move keeps the laws of the observer and of SILENCED. -/
theorem State.Move.silence_lawful {s t : State} (m : s.Move t) (h : s.SilenceLawful) : t.SilenceLawful := by
  have role_of_maySend (may : s.session.state.maySend = true) : s.config.role ≠ .observer := fun ho => by
    simp [(h.observer ho).2] at may
  have cleared : s.line.onLine = none → (s.line.cutLoose fun _ => true).onLine = none :=
    LineInterface.cutLoose_onLine_eq_none.mpr
  cases m with
  | inner m =>
    obtain ⟨session, standing, -, -, -, -, line⟩ := m.frame
    exact h.of_parts (by rw [session]) (by rw [session]) line (by rw [standing]) fun _ => by rw [standing]; exact ⟨rfl, rfl⟩
  | timers c number config state reset => exact h.of_parts state config id .rfl fun _ => ⟨rfl, rfl⟩
  | counts a b => exact h.setCounts a b
  | progress frames quiet state => exact h.of_parts rfl rfl id .rfl fun hs => absurd state hs
  | recovered state =>
    exact h.of_awake (st := .listening) rfl rfl id (fun hs => nomatch hs) (by decide) (fun hs => nomatch hs)
      (fun hs => nomatch hs) (fun hs => nomatch hs) ⟨rfl, rfl⟩
  | configured c state idle =>
    have setup : ({ s with session := { s.session with config := some c } } : State).session.state = .setup := state
    refine ⟨fun _ => ⟨idle, by rw [setup]; rfl⟩, fun ho => ?_, fun _ => idle, fun hs => ?_, h.silencedStates, h.silencedQuiet,
      h.progressOnlySilent⟩
    · cases setup.symm.trans ho
    · cases setup.symm.trans hs
  | started state sound =>
    exact h.of_awake (st := .listening) rfl rfl id sound (by decide) (fun hs => nomatch hs) (fun hs => nomatch hs)
      (fun hs => nomatch hs) (h.progressOnlySilent (by simp [state]))
  | startedSilent state silenced =>
    have quiet := h.silencedQuiet silenced
    exact ⟨fun _ => ⟨quiet, rfl⟩, fun hs => (nomatch hs), fun _ => quiet, fun _ => silenced, fun _ => .inr rfl,
      fun _ => quiet, fun hs => absurd rfl hs⟩
  | leftMember state =>
    exact h.of_awake (st := .leaving) rfl rfl cleared (h.awake (by simp [state]) (by simp [state])) (by decide)
      (fun hs => nomatch hs) (fun hs => nomatch hs) (fun _ => role_of_maySend (by rw [state]; rfl))
      (h.progressOnlySilent (by simp [state]))
  | leftAtOnce state =>
    have outside : s.session.state ≠ .setup ∧ s.session.state ≠ .silent := by rcases state with h | h | h <;> simp [h]
    exact h.of_awake (st := .setup) rfl rfl cleared (h.awake outside.1 outside.2) (by decide) (fun hs => nomatch hs)
      (fun hs => nomatch hs) (fun hs => nomatch hs) (h.progressOnlySilent outside.2)
  | windowEnds st state role =>
    refine h.of_awake (st := st) rfl rfl id (h.awake (by simp [state]) (by simp [state])) ?_ ?_ ?_ ?_
      (h.progressOnlySilent (by simp [state]))
    all_goals rcases role with ⟨rfl, role⟩ | ⟨rfl, role⟩ <;> simp [role, StationState.maySend]
  | lapsed o state =>
    exact h.of_awake (st := .listening) rfl rfl cleared (h.awake (by simp [state]) (by simp [state])) (by decide)
      (fun hs => nomatch hs) (fun hs => nomatch hs) (fun hs => nomatch hs) (h.progressOnlySilent (by simp [state]))
  | duplicate active loud idle =>
    have setup : s.session.state ≠ .setup := fun hs => by simp [hs, StationState.receiverActive] at active
    exact h.of_awake (st := .halted) rfl rfl cleared (h.awake setup loud) (by decide) (fun _ => cleared idle)
      (fun hs => nomatch hs) (fun hs => nomatch hs) (h.progressOnlySilent loud)
  | promoted state =>
    exact h.of_awake (st := .member) rfl rfl id (h.awake (by simp [state]) (by simp [state])) (by decide)
      (fun hs => nomatch hs) (fun hs => nomatch hs) (fun _ => role_of_maySend (by rw [state]; rfl))
      (h.progressOnlySilent (by simp [state]))
  | withdrawn state =>
    exact h.of_awake (st := .setup) rfl rfl id (h.awake (by simp [state]) (by simp [state])) (by decide)
      (fun hs => nomatch hs) (fun hs => nomatch hs) (fun hs => nomatch hs) (h.progressOnlySilent (by simp [state]))
  | sends c k idle may choice =>
    obtain ⟨session, -, -, -, standing, -, -, -⟩ := s.send_frame c k
    have outside : s.session.state ≠ .setup ∧ s.session.state ≠ .silent ∧ s.session.state ≠ .halted
        ∧ s.session.state ≠ .observing := by
      refine ⟨?_, ?_, ?_, ?_⟩ <;> exact fun hs => by simp [hs, StationState.maySend] at may
    refine ⟨fun ho => ?_, fun ho => ?_, fun hh => ?_, fun hs => ?_, fun hs => ?_, fun hs => ?_, fun hs => ?_⟩
    · exact absurd (by simpa [State.config, session] using ho) (role_of_maySend may)
    · exact absurd (session ▸ ho) outside.2.2.2
    · exact absurd (session ▸ hh) outside.2.2.1
    · exact absurd (session ▸ hs) outside.2.1
    · exact absurd (standing ▸ hs) (h.awake outside.1 outside.2.1)
    · exact absurd (standing ▸ hs) (h.awake outside.1 outside.2.1)
    · rw [standing]
      exact h.progressOnlySilent outside.2.1
  | fails f onLine => exact h.frameFails onLine
  | link | notices | dismissed | released => exact h.of_parts rfl rfl id .rfl fun _ => ⟨rfl, rfl⟩

theorem State.silenceLawful_fullReset (s : State) : s.fullReset.SilenceLawful := by
  have idle : s.fullReset.line.onLine = none := s.line.underReset_onLine
  exact ⟨fun _ => ⟨idle, rfl⟩, fun hs => (nomatch hs), fun _ => idle, fun hs => (nomatch hs), fun hs => (nomatch hs),
    fun hs => (nomatch hs), fun _ => ⟨rfl, rfl⟩⟩

/-- Settles O55. -/
theorem everyStepKeepsTheSilenceLaws : Obligations.EveryStepKeepsTheSilenceLaws := fun _ _ =>
  step_keeps (P := State.SilenceLawful) (fun _ _ h => h.of_parts rfl rfl id .rfl fun _ => ⟨rfl, rfl⟩)
    State.silenceLawful_fullReset State.Move.silence_lawful

/-! ## The roster -/

/-- The law reads the roster, the session and the Link Port's phase alone. -/
theorem State.RosterLawful.of_parts {s t : State} (h : s.RosterLawful) (roster : t.roster = s.roster)
    (session : t.session = s.session) (link : t.link = s.link) : t.RosterLawful := by
  obtain ⟨ascends, notOwn, emptyStates, resetSetup⟩ := h
  exact ⟨roster ▸ ascends, roster ▸ session ▸ notOwn, roster ▸ session ▸ emptyStates, session ▸ link ▸ resetSetup⟩

/-- A roster that is filtered, or changed member by member, stays lawful. -/
theorem State.RosterLawful.of_sublist {s t : State} (h : s.RosterLawful)
    (roster : (t.roster.map (·.station)).Sublist (s.roster.map (·.station))) (session : t.session = s.session)
    (link : t.link = s.link) : t.RosterLawful := by
  have ascending : (s.roster.map (·.station)).Pairwise fun a b => a.val < b.val := List.pairwise_map.mpr h.ascends
  have kept : (t.roster.map (·.station)).Pairwise fun a b => a.val < b.val := ascending.sublist roster
  refine ⟨(List.pairwise_map (R := fun a b : Station => a.val < b.val)).mp kept, fun m hm => ?_, fun empty => ?_, session ▸ link ▸ h.resetSetup⟩
  · obtain ⟨m', hm', same⟩ := List.mem_map.mp (roster.subset (List.mem_map_of_mem hm))
    rw [session, ← same]
    exact h.notOwn m' hm'
  · simpa [h.emptyStates (session ▸ empty)] using roster

/-- With RESET_N released and no member, the station may be in any state. -/
theorem State.RosterLawful.of_empty {t : State} (roster : t.roster = []) (released : t.session.resetAsserted = false) :
    t.RosterLawful :=
  ⟨by simp [roster], by simp [roster], fun _ => roster, fun asserted => by simp [released] at asserted⟩

/-- The roster stays where the number stays and the new state may hold members. -/
theorem State.RosterLawful.of_state {s t : State} (h : s.RosterLawful) (roster : t.roster = s.roster)
    (number : t.session.number = s.session.number) (state : t.session.state.rosterEmpty = false)
    (released : t.session.resetAsserted = false) : t.RosterLawful :=
  ⟨roster ▸ h.ascends, roster ▸ number ▸ h.notOwn, fun empty => by simp [state] at empty,
    fun asserted => by simp [released] at asserted⟩

/-- Outside SETUP RESET_N is released. -/
theorem State.RosterLawful.released {s : State} (h : s.RosterLawful) (state : s.session.state ≠ .setup) :
    s.session.resetAsserted = false := by
  rw [← Bool.not_eq_true]
  exact fun asserted => state (h.resetSetup asserted).1

theorem State.RosterLawful.released_of_open {s : State} (h : s.RosterLawful) (opened : s.LinkOpen) :
    s.session.resetAsserted = false := by
  rw [← Bool.not_eq_true]
  exact fun asserted => opened.elim (by simp [asserted]) fun busy => busy (h.resetSetup asserted).2

/-- R54: an admission keeps the order, and brings in no own number. -/
theorem State.RosterLawful.enrol {s : State} (h : s.RosterLawful) {x : Header} {p : Presence}
    (other : x.source ≠ s.session.number) (state : s.session.state.rosterEmpty = false) : (s.enrol x p).RosterLawful := by
  have admitted : State.RosterLawful
      { s with roster := insertAsc (fun m => m.station.val) (Member.admitted x p) s.roster } := by
    refine ⟨h.ascends.insertAsc _, fun m hm => ?_, fun empty => ?_, h.resetSetup⟩
    · rcases mem_insertAsc _ _ _ _ hm with rfl | hm
      · exact other
      · exact h.notOwn m hm
    · simp [state] at empty
  have awaits (l : List Resource) (t : State) : (l.foldl (fun t r => t.await r x.source) t).roster = t.roster := by
    induction l generalizing t with
    | nil => rfl
    | cons r l ih => exact (ih _).trans (t.await_roster r x.source)
  have frame := State.foldl_await_frame ((s.claims.table.filter fun e => e.state == .wanted && inGroups p.interest e.resource).map
    (·.resource)) x.source { s with roster := insertAsc (fun m => m.station.val) (Member.admitted x p) s.roster }
  exact admitted.of_parts (awaits _ _) frame.session frame.link

theorem State.grantClaim_roster (s : State) (p : Station) (r : Resource) (q : ClaimSeq) :
    (s.grantClaim p r q).roster = s.roster := by
  unfold State.grantClaim
  split
  · rfl
  · dsimp only
    split
    · rw [State.await_roster]; rfl
    · rfl

theorem State.Inner.roster_lawful {s t : State} (m : s.Inner t) (h : s.RosterLawful) : t.RosterLawful := by
  obtain ⟨session, -, -, link, -, -, -⟩ := m.frame
  cases m with
  | enrol x p new other state => exact h.enrol other state
  | purge k x hk =>
    subst hk
    exact h.of_sublist (by rw [Take.purge_roster]; exact List.filter_sublist.map _) session link
  | members f hf =>
    have stations : (s.roster.map f).map (·.station) = s.roster.map (·.station) := by
      rw [List.map_map]
      exact List.map_congr_left fun m _ => hf m
    exact h.of_sublist (stations ▸ List.Sublist.refl _) session link
  | slotCompletes r => exact h.of_parts (by simp) session link
  | resendCompletes r => exact h.of_parts (by simp [State.resendCompletes]) session link
  | resent r => exact h.of_parts (by simp) session link
  | announced r =>
    exact h.of_parts ((Take.moveToHeld_base (s.markAnnounced r).begin r).roster.trans (s.markAnnounced_base r).roster)
      session link
  | answered k r x hk =>
    subst hk
    exact h.of_parts (k.answered_base r x).roster session link
  | granted p r q => exact h.of_parts (s.grantClaim_roster p r q) session link
  | freeReceived x r =>
    refine h.of_parts ?_ session link
    unfold State.answerFree
    split <;> rfl
  | addPeer k r x i src hk =>
    subst hk
    exact h.of_parts rfl session link
  | line | clock | schedule | requestPresence | presenceDone | withdrawDone | created | removed | releases | freed | deferred
  | grantDone | dropPeers | dropUnlisted | dropPeerAt | endWindow => exact h.of_parts rfl session link

/-- R88: a silencing clears the roster, or leaves the session as it is. -/
theorem State.RosterLawful.takeSilencing {s : State} (h : s.RosterLawful) : s.takeSilencing.RosterLawful := by
  unfold State.takeSilencing
  split
  case h_1 state => exact .of_empty rfl (h.released (by simp [state]))
  case h_2 state => exact .of_empty rfl (h.released (by simp [state]))
  case h_3 state => exact .of_empty rfl (h.released (by simp [state]))
  case h_4 state => exact .of_empty rfl (h.released (by simp [state]))
  all_goals exact h

theorem State.RosterLawful.countSendFault {s : State} (h : s.RosterLawful) : s.countSendFault.RosterLawful := by
  unfold State.countSendFault
  split
  · exact h
  · split
    · exact State.RosterLawful.takeSilencing (h.of_parts rfl rfl rfl)
    · exact h.of_parts (by simp) (by simp) (by simp)

/-- Every move keeps the laws of the roster. -/
theorem State.Move.roster_lawful {s t : State} (m : s.Move t) (h : s.RosterLawful) : t.RosterLawful := by
  cases m with
  | inner m => exact m.roster_lawful h
  | link l closed => exact ⟨h.ascends, h.notOwn, h.emptyStates, fun asserted =>
      ⟨(h.resetSetup asserted).1, closed asserted (h.resetSetup asserted).2⟩⟩
  | timers c number config state reset =>
    exact ⟨h.ascends, number ▸ h.notOwn, state ▸ h.emptyStates, fun asserted => state ▸ h.resetSetup (reset ▸ asserted)⟩
  | configured c state idle => exact ⟨h.ascends, h.notOwn, h.emptyStates, h.resetSetup⟩
  | counts a b => exact h.of_parts (by simp) (by simp) (by simp)
  | recovered state =>
    exact .of_empty (h.emptyStates (by rw [state]; rfl)) (h.released (by simp [state]))
  | started state sound opened => exact .of_empty (h.emptyStates (by rw [state]; rfl)) (h.released_of_open opened)
  | startedSilent state silenced opened => exact .of_empty (h.emptyStates (by rw [state]; rfl)) (h.released_of_open opened)
  | leftMember state => exact h.of_state rfl rfl rfl (h.released (by simp [state]))
  | leftAtOnce state => exact .of_empty rfl (h.released (by rcases state with h | h | h <;> simp [h]))
  | windowEnds st state role =>
    refine h.of_state rfl rfl ?_ (h.released (by simp [state]))
    rcases role with ⟨rfl, -⟩ | ⟨rfl, -⟩ <;> rfl
  | lapsed o state => exact .of_empty rfl (h.released (by simp [state]))
  | duplicate active => exact .of_empty rfl (h.released fun hs => by simp [hs, StationState.receiverActive] at active)
  | promoted state => exact h.of_state rfl rfl rfl (h.released (by simp [state]))
  | withdrawn state => exact .of_empty rfl (h.released (by simp [state]))
  | released straps asserted =>
    exact .of_empty (h.emptyStates (by rw [(h.resetSetup asserted).1]; rfl)) rfl
  | sends c k =>
    have frame := s.send_frame c k
    exact h.of_parts frame.roster frame.session frame.link
  | fails f =>
    have frame := (s.frameReturned_frame f).1
    rw [State.frameFails_eq]
    exact (h.of_parts frame.roster frame.session frame.link).countSendFault
  | notices | dismissed | progress => exact h.of_parts rfl rfl rfl

theorem State.rosterLawful_fullReset (s : State) : s.fullReset.RosterLawful :=
  ⟨List.Pairwise.nil, by simp [State.fullReset, State.reset], fun _ => rfl, fun _ => ⟨rfl, rfl⟩⟩

/-- Settles O56. -/
theorem everyStepKeepsTheRosterLaws : Obligations.EveryStepKeepsTheRosterLaws := fun _ _ =>
  step_keeps (P := State.RosterLawful) (fun _ _ h => h.of_parts rfl rfl rfl) State.rosterLawful_fullReset
    State.Move.roster_lawful

end Sys2Proof.Machine

/-! PROOFS. What the operations on the claim table make of it as a whole, where no resource has two entries (R6): each maps
the table entry by entry. -/

namespace Sys2Proof.Machine

/-! ## Keyed lists -/

/-- In an ascending list a key names one element. -/
theorem Ascending.eq_of_key {α : Type} {key : α → Nat} {l : List α} (h : Ascending key l) {a b : α} (ha : a ∈ l) (hb : b ∈ l)
    (hk : key a = key b) : a = b := by
  induction l with
  | nil => cases ha
  | cons c l ih =>
    obtain ⟨first, rest⟩ := List.pairwise_cons.mp h
    rcases List.mem_cons.mp ha with rfl | ina <;> rcases List.mem_cons.mp hb with rfl | inb
    · rfl
    · exact absurd hk (first b inb).ne
    · exact absurd hk (first a ina).ne'
    · exact ih rest ina inb

/-- No resource has two entries in the table (R6). -/
abbrev State.Keyed (s : State) : Prop := Ascending (fun e : ClaimEntry => e.resource.val) s.claims.table

/-- Change the entries of one resource in a table. -/
def changeAt (r : Resource) (f : ClaimEntry → ClaimEntry) (table : List ClaimEntry) : List ClaimEntry :=
  table.map fun e => if e.resource = r then f e else e

theorem State.modifyEntry_changeAt (s : State) (r : Resource) (f : ClaimEntry → ClaimEntry) :
    (s.modifyEntry r f).claims.table = changeAt r f s.claims.table := rfl

theorem changeAt_changeAt (r : Resource) (f g : ClaimEntry → ClaimEntry) (hg : ∀ e, (g e).resource = e.resource)
    (table : List ClaimEntry) : changeAt r f (changeAt r g table) = changeAt r (fun e => f (g e)) table := by
  simp only [changeAt, List.map_map]
  refine List.map_congr_left fun e _ => ?_
  by_cases h : e.resource = r <;> simp [h, hg]

theorem changeAt_congr {r : Resource} {f g : ClaimEntry → ClaimEntry} {table : List ClaimEntry}
    (h : ∀ e ∈ table, e.resource = r → f e = g e) : changeAt r f table = changeAt r g table := by
  refine List.map_congr_left fun e he => ?_
  by_cases hr : e.resource = r
  · simp [hr, h e he hr]
  · simp [hr]

theorem changeAt_id {r : Resource} {f : ClaimEntry → ClaimEntry} {table : List ClaimEntry}
    (h : ∀ e ∈ table, e.resource = r → f e = e) : changeAt r f table = table :=
  (changeAt_congr h).trans (by simp [changeAt])

theorem Ascending.changeAt {table : List ClaimEntry} (h : Ascending (fun e : ClaimEntry => e.resource.val) table)
    (r : Resource) {f : ClaimEntry → ClaimEntry} (hf : ∀ e, (f e).resource = e.resource) :
    Ascending (fun e : ClaimEntry => e.resource.val) (changeAt r f table) := by
  refine h.map _ fun e => ?_
  split
  · rw [hf]
  · rfl

namespace State.Keyed

variable {s : State} {r : Resource}

/-- The entry of a resource is the one in the table. -/
theorem entry?_eq_some (h : s.Keyed) {e : ClaimEntry} : s.entry? r = some e ↔ e ∈ s.claims.table ∧ e.resource = r := by
  refine ⟨fun he => ⟨State.entry?_mem he, State.entry?_resource he⟩, fun ⟨mem, res⟩ => ?_⟩
  cases he : s.entry? r with
  | none => exact absurd res (State.entry?_eq_none.mp he e mem)
  | some e' =>
    have same : e'.resource.val = e.resource.val := by rw [State.entry?_resource he, res]
    rw [h.eq_of_key (State.entry?_mem he) mem same]

theorem entry?_of_mem (h : s.Keyed) {e : ClaimEntry} (he : e ∈ s.claims.table) : s.entry? e.resource = some e :=
  h.entry?_eq_some.mpr ⟨he, rfl⟩

/-- Two changes at a resource agree when they agree on its entry. -/
theorem changeAt_eq (h : s.Keyed) {e : ClaimEntry} (he : s.entry? r = some e) {f g : ClaimEntry → ClaimEntry}
    (same : f e = g e) : changeAt r f s.claims.table = changeAt r g s.claims.table := by
  refine changeAt_congr fun x hx hr => ?_
  rw [← Option.some.inj (he.symm.trans (h.entry?_eq_some.mpr ⟨hx, hr⟩))]
  exact same

end State.Keyed

/-- A resource without an entry has none to change. -/
theorem changeAt_of_none {s : State} {r : Resource} (he : s.entry? r = none) (f : ClaimEntry → ClaimEntry) :
    changeAt r f s.claims.table = s.claims.table :=
  changeAt_id fun e hm hr => absurd hr (State.entry?_eq_none.mp he e hm)

/-! ## Moves of one entry -/

/-- R10, R25: the entry that enters RELEASING, its FREE placed. -/
def ClaimEntry.releases (reason : CloseReason) (e : ClaimEntry) : ClaimEntry :=
  { e with state := .releasing reason, awaiting := [], waiters := [], resendDue := none, patience := none,
           slot := { e.slot with unsent := some (.free reason) } }

theorem State.enterReleasing_table (s : State) (r : Resource) (reason : CloseReason) :
    (s.enterReleasing r reason).claims.table = changeAt r (ClaimEntry.releases reason) s.claims.table :=
  changeAt_changeAt r _ _ (fun _ => by rfl) _

/-- R19: the entry whose re-send is placed, or whose waiting request serves. -/
def ClaimEntry.resent (e : ClaimEntry) : ClaimEntry :=
  { e with resendDue := none, slot := { e.slot with unsent := some (e.slot.unsent.getD .resend) } }

theorem State.placeResend_table {s : State} (h : s.Keyed) (r : Resource) :
    (s.placeResend r).claims.table = changeAt r ClaimEntry.resent s.claims.table := by
  unfold State.placeResend
  cases he : s.entry? r with
  | none => exact (changeAt_of_none he _).symm
  | some e =>
    dsimp only
    cases hu : e.slot.unsent with
    | some q =>
      refine h.changeAt_eq he ?_
      simp only [ClaimEntry.resent, hu, Option.getD_some]
      rw [← hu]
    | none =>
      refine (changeAt_changeAt r _ _ (fun _ => by rfl) _).trans (h.changeAt_eq he ?_)
      simp [ClaimEntry.resent, hu]

/-- A re-send is placed only where no request waits. -/
theorem State.placeResend_scheduler {s : State} {r : Resource} {e : ClaimEntry} (he : s.entry? r = some e) :
    (s.placeResend r).scheduler = if e.slot.unsent = none then s.scheduler.place (.entry r) else s.scheduler := by
  unfold State.placeResend
  rw [he]
  cases hu : e.slot.unsent with
  | none => simp only [hu, Option.isSome_none, Bool.false_eq_true, if_false, if_true]; rfl
  | some q => simp only [hu, Option.isSome_some, reduceCtorEq, if_false, if_true]; rfl

theorem State.await_table {s : State} (h : s.Keyed) (r : Resource) (x : Station) :
    (s.await r x).claims.table = changeAt r (ClaimEntry.awaits x) s.claims.table := by
  unfold State.await
  cases he : s.entry? r with
  | none => exact (changeAt_of_none he _).symm
  | some e =>
    dsimp only
    by_cases hw : e.state = .wanted
    · rw [if_pos hw]
      by_cases ha : e.announced = true
      · rw [if_pos ha]
        unfold State.resendNow
        rw [State.placeResend_table (Ascending.changeAt (Ascending.changeAt h r fun _ => by rfl) r fun _ => by rfl)]
        simp only [State.modifyEntry_changeAt]
        rw [changeAt_changeAt _ _ _ fun _ => by rfl, changeAt_changeAt _ _ _ fun _ => by rfl]
        exact h.changeAt_eq he (by simp [ClaimEntry.awaits, ClaimEntry.resent, hw, ha])
      · rw [if_neg ha]
        exact h.changeAt_eq he (by simp [ClaimEntry.awaits, hw, ha])
    · rw [if_neg hw]
      exact (changeAt_id fun e' hm hr => by
        obtain rfl : e' = e := Option.some.inj ((h.entry?_eq_some.mpr ⟨hm, hr⟩).symm.trans he)
        simp [ClaimEntry.awaits, hw]).symm

theorem ClaimEntry.awaits_resource (x : Station) (e : ClaimEntry) : (e.awaits x).resource = e.resource := by
  unfold ClaimEntry.awaits
  split <;> [(split <;> rfl); rfl]

theorem State.await_keyed {s : State} (h : s.Keyed) (r : Resource) (x : Station) : (s.await r x).Keyed := by
  rw [State.Keyed, State.await_table h]
  exact h.changeAt r (ClaimEntry.awaits_resource x)

/-- R18: the entry as a move to HELD leaves it: held where it is ready for it. -/
def ClaimEntry.heldIfReady (e : ClaimEntry) : ClaimEntry := if e.readyToHold then e.held else e

@[simp] theorem ClaimEntry.heldIfReady_resource (e : ClaimEntry) : e.heldIfReady.resource = e.resource := by
  unfold ClaimEntry.heldIfReady
  split <;> rfl

theorem Take.moveToHeld_table {k : Take} (h : k.state.Keyed) (r : Resource) :
    (k.moveToHeld r).state.claims.table = changeAt r ClaimEntry.heldIfReady k.state.claims.table := by
  cases he : k.state.entry? r with
  | none =>
    rw [Take.moveToHeld_of_not (by simp [he])]
    exact (changeAt_of_none he _).symm
  | some e =>
    by_cases ready : e.readyToHold = true
    · rw [(Take.moveToHeld_ready he ready).2.1]
      exact h.changeAt_eq he (by simp [ClaimEntry.heldIfReady, ready])
    · rw [Take.moveToHeld_of_not fun e' he' => by rw [he] at he'; cases he'; simpa using ready]
      refine (changeAt_id fun e' hm hr => ?_).symm
      obtain rfl : e' = e := Option.some.inj ((h.entry?_eq_some.mpr ⟨hm, hr⟩).symm.trans he)
      simp [ClaimEntry.heldIfReady, ready]

/-- R16, R17: the entry after an answer of `x`. -/
def ClaimEntry.answeredBy (x : Station) (e : ClaimEntry) : ClaimEntry :=
  if e.AwaitsAnswer x then e.countAnswer x else e

theorem ClaimEntry.countAnswer_resource (x : Station) (e : ClaimEntry) : (e.countAnswer x).resource = e.resource := by
  unfold ClaimEntry.countAnswer
  dsimp only
  split <;> rfl

theorem ClaimEntry.answeredBy_resource (x : Station) (e : ClaimEntry) : (e.answeredBy x).resource = e.resource := by
  unfold ClaimEntry.answeredBy
  split
  · exact e.countAnswer_resource x
  · rfl

/-- R16 to R18: an awaited answer leaves the awaiting set, and the last one makes the entry HELD. -/
theorem ClaimEntry.countAnswer_eq {x : Station} {e : ClaimEntry} (h : e.AwaitsAnswer x) :
    e.countAnswer x = ClaimEntry.heldIfReady { e with awaiting := e.awaiting.filter (· != x) } := by
  obtain ⟨wanted, announced, -⟩ := h
  unfold ClaimEntry.countAnswer ClaimEntry.heldIfReady
  by_cases last : e.awaiting.filter (· != x) = []
  · simp [last, ClaimEntry.readyToHold, wanted, announced, ClaimEntry.held]
  · have : ¬ ({ e with awaiting := e.awaiting.filter (· != x) } : ClaimEntry).readyToHold = true := by
      simpa [ClaimEntry.readyToHold, wanted, announced] using last
    simp only [if_neg last, if_neg this]

theorem Take.answered_table {k : Take} (h : k.state.Keyed) (r : Resource) (x : Station) :
    (k.answered r x).state.claims.table = changeAt r (ClaimEntry.answeredBy x) k.state.claims.table := by
  unfold Take.answered
  cases he : k.state.entry? r with
  | none => exact (changeAt_of_none he _).symm
  | some e =>
    dsimp only
    split
    · rename_i awaits
      refine (Take.moveToHeld_table (Ascending.changeAt h r fun _ => by rfl) r).trans ?_
      refine (changeAt_changeAt r _ _ (fun _ => by rfl) _).trans (h.changeAt_eq he ?_)
      rw [ClaimEntry.answeredBy, if_pos awaits, ClaimEntry.countAnswer_eq awaits]
    · rename_i awaits
      refine (changeAt_id fun e' hm hr => ?_).symm
      obtain rfl : e' = e := Option.some.inj ((h.entry?_eq_some.mpr ⟨hm, hr⟩).symm.trans he)
      rw [ClaimEntry.answeredBy, if_neg awaits]

/-- R15: the entry after its announce. -/
theorem State.announced_table {s : State} (h : s.Keyed) (r : Resource) :
    ((s.markAnnounced r).begin.moveToHeld r).state.claims.table =
      changeAt r (fun e => (e.announce s.nextResend).heldIfReady) s.claims.table := by
  have marked : (s.markAnnounced r).claims.table = changeAt r (ClaimEntry.announce s.nextResend) s.claims.table := by
    rw [State.markAnnounced, State.modifyEntry_changeAt, State.slotCompletes_claims, State.modifyEntry_changeAt,
      changeAt_changeAt _ _ _ fun _ => by rfl]
    rfl
  have resource (e : ClaimEntry) : (e.announce s.nextResend).resource = e.resource := ClaimEntry.awaitNext_resource _ _
  have keyed : (s.markAnnounced r).Keyed := by
    rw [State.Keyed, marked]
    exact h.changeAt r resource
  rw [Take.moveToHeld_table keyed, State.begin_state, marked, changeAt_changeAt _ _ _ resource]

/-- The element that comes is found where nothing before had its property. -/
theorem find?_insertAsc_of_pos {α : Type} {key : α → Nat} {p : α → Bool} {x : α} {l : List α} (hx : p x = true)
    (hl : ∀ y ∈ l, p y = false) : (insertAsc key x l).find? p = some x := by
  induction l with
  | nil => simp [insertAsc, hx]
  | cons y ys ih =>
    unfold insertAsc
    split
    · simp [hx]
    · split
      · simp [hx]
      · rw [List.find?_cons, hl y List.mem_cons_self]
        exact ih fun z hz => hl z (List.mem_cons_of_mem _ hz)

/-- The element that comes in no one's place hides nothing else. -/
theorem find?_insertAsc_of_neg {α : Type} {key : α → Nat} {p : α → Bool} {x : α} {l : List α} (hx : p x = false)
    (new : ∀ y ∈ l, key x ≠ key y) : (insertAsc key x l).find? p = l.find? p := by
  induction l with
  | nil => simp [insertAsc, hx]
  | cons y ys ih =>
    unfold insertAsc
    split
    · simp [hx]
    · rw [if_neg (new y List.mem_cons_self), List.find?_cons, List.find?_cons,
        ih fun z hz => new z (List.mem_cons_of_mem _ hz)]

/-- R12: the table gains the entry, with its first CLAIM waiting. -/
theorem State.entry?_createClaim {s : State} {r : Resource} (patience : Option Nat) (fresh : s.entry? r = none) (r' : Resource) :
    (s.createClaim r patience).entry? r' =
      if r' = r then some { ClaimEntry.created r (s.claims.seq + 1) patience s.session.tick with
        slot := { onLine := none, unsent := some .firstClaim } }
      else s.entry? r' := by
  have others (e : ClaimEntry) (he : e ∈ s.claims.table) : e.resource ≠ r := State.entry?_eq_none.mp fresh e he
  rw [State.createClaim, State.entry?_placeRequest]
  split
  · rename_i eq
    subst eq
    have found : (insertAsc (fun e => e.resource.val) (ClaimEntry.created r' (s.claims.seq + 1) patience s.session.tick)
        s.claims.table).find? (·.resource == r') = some (ClaimEntry.created r' (s.claims.seq + 1) patience s.session.tick) :=
      find?_insertAsc_of_pos (by simp [ClaimEntry.created]) fun e he => by simpa using others e he
    simp only [State.entry?, ClaimEngine.entry?, found, Option.map_some]
    rfl
  · rename_i ne
    exact find?_insertAsc_of_neg (by simpa [ClaimEntry.created] using Ne.symm ne) fun e he eq =>
      others e he (Fin.ext eq).symm

/-! ## Moves of several entries -/

/-- Changing one resource after another changes each entry once, where no resource comes twice. -/
theorem foldl_changeAt (f : ClaimEntry → ClaimEntry) (hf : ∀ e, (f e).resource = e.resource) (l : List Resource)
    (nodup : l.Nodup) (table : List ClaimEntry) :
    l.foldl (fun t r => changeAt r f t) table = table.map fun e => if e.resource ∈ l then f e else e := by
  induction l generalizing table with
  | nil => simp
  | cons r l ih =>
    obtain ⟨new, nodup⟩ := List.nodup_cons.mp nodup
    rw [List.foldl_cons, ih nodup, changeAt, List.map_map]
    refine List.map_congr_left fun e _ => ?_
    by_cases hr : e.resource = r
    · simp [hr, hf, new]
    · simp [hr]

/-- The resources of a keyed table's entries come once each. -/
theorem State.Keyed.nodup {s : State} (h : s.Keyed) (p : ClaimEntry → Bool) :
    ((s.claims.table.filter p).map (·.resource)).Nodup := by
  refine List.pairwise_map.mpr ((List.Pairwise.filter p h).imp fun lt eq => ?_)
  exact lt.ne (congrArg Fin.val eq)

theorem State.Keyed.mem_resources {s : State} (h : s.Keyed) {p : ClaimEntry → Bool} {e : ClaimEntry}
    (he : e ∈ s.claims.table) : e.resource ∈ (s.claims.table.filter p).map (·.resource) ↔ p e = true := by
  simp only [List.mem_map, List.mem_filter]
  constructor
  · rintro ⟨x, ⟨hx, hp⟩, same⟩
    rwa [← h.eq_of_key hx he (congrArg Fin.val same)]
  · exact fun hp => ⟨e, ⟨he, hp⟩, rfl⟩

theorem Take.foldl_moveToHeld_table (l : List Resource) {k : Take} (h : k.state.Keyed) :
    (l.foldl Take.moveToHeld k).state.claims.table =
      l.foldl (fun t r => changeAt r ClaimEntry.heldIfReady t) k.state.claims.table := by
  induction l generalizing k with
  | nil => rfl
  | cons r l ih =>
    have keyed : (k.moveToHeld r).state.Keyed := by
      rw [State.Keyed, Take.moveToHeld_table h]
      exact h.changeAt r ClaimEntry.heldIfReady_resource
    rw [List.foldl_cons, ih keyed, Take.moveToHeld_table h]
    rfl

theorem State.foldl_await_table (l : List Resource) (x : Station) {s : State} (h : s.Keyed) :
    (l.foldl (fun t r => t.await r x) s).claims.table =
      l.foldl (fun t r => changeAt r (ClaimEntry.awaits x) t) s.claims.table := by
  induction l generalizing s with
  | nil => rfl
  | cons r l ih =>
    rw [List.foldl_cons, ih (State.await_keyed h r x), State.await_table h]
    rfl

/-- R30: an entry is completed by the purge of `x` when the answer of `x` is its last. -/
theorem ClaimEntry.completedByPurge_iff {x : Station} {e : ClaimEntry} :
    e.completedByPurge x = true ↔ e.LastAnswer x := by
  simp only [ClaimEntry.completedByPurge, ClaimEntry.readyToHold, ClaimEntry.purge, ClaimEntry.LastAnswer,
    ClaimEntry.AwaitsAnswer, Bool.and_eq_true, decide_eq_true_eq, beq_iff_eq, List.isEmpty_iff]
  tauto

theorem ClaimEntry.purge_heldIfReady (x : Station) (e : ClaimEntry) :
    (if e.completedByPurge x = true then (e.purge x).heldIfReady else e.purge x) = e.purged x := by
  unfold ClaimEntry.purged
  dsimp only
  by_cases awaits : e.AwaitsAnswer x
  · have kept : ({ e with waiters := e.waiters.filter fun w => w.station != x } : ClaimEntry).AwaitsAnswer x := awaits
    rw [if_pos awaits, ClaimEntry.countAnswer_eq kept]
    by_cases last : e.awaiting.filter (· != x) = []
    · rw [if_pos (ClaimEntry.completedByPurge_iff.mpr ⟨awaits, last⟩)]
      rfl
    · rw [if_neg fun h => last (ClaimEntry.completedByPurge_iff.mp h).2, ClaimEntry.heldIfReady, if_neg]
      · rfl
      · simpa [ClaimEntry.readyToHold] using fun _ _ => last
  · rw [if_neg awaits, if_neg fun h => awaits (ClaimEntry.completedByPurge_iff.mp h).1]
    rfl

/-- R30: the table after a purge, entry by entry. -/
theorem Take.purge_table {k : Take} (h : k.state.Keyed) (x : Station) :
    (k.purge x).state.claims.table = k.state.claims.table.map (ClaimEntry.purged x) := by
  have keyed : Ascending (fun e : ClaimEntry => e.resource.val) (k.state.claims.table.map (ClaimEntry.purge x)) :=
    h.map _ fun _ => by rfl
  refine (Take.foldl_moveToHeld_table _ keyed).trans ?_
  rw [foldl_changeAt _ ClaimEntry.heldIfReady_resource _ (h.nodup _)]
  refine (List.map_map ..).trans (List.map_congr_left fun e he => ?_)
  have done : (e.purge x).resource ∈ (k.state.claims.table.filter (ClaimEntry.completedByPurge x)).map (·.resource) ↔
      e.completedByPurge x = true := h.mem_resources he
  simp only [Function.comp_apply, done, ClaimEntry.purge_heldIfReady]

/-- R28: an entry that an admission awaits. -/
theorem ClaimEntry.joinedBy_eq (x : Station) (g : Groups) (e : ClaimEntry) :
    e.joinedBy x g = if (e.state == .wanted && inGroups g e.resource) = true then e.awaits x else e := by
  unfold ClaimEntry.joinedBy ClaimEntry.awaits
  by_cases hw : e.state = .wanted <;> by_cases hg : inGroups g e.resource = true <;> simp [hw, hg]

/-- R28: the table after an admission, entry by entry. -/
theorem State.enrol_table {s : State} (h : s.Keyed) (x : Header) (p : Presence) :
    (s.enrol x p).claims.table = s.claims.table.map (ClaimEntry.joinedBy x.source p.interest) := by
  refine (State.foldl_await_table _ _ (s := { s with
    roster := insertAsc (fun m => m.station.val) (Member.admitted x p) s.roster }) h).trans ?_
  rw [foldl_changeAt _ (ClaimEntry.awaits_resource x.source) _ (h.nodup _)]
  refine List.map_congr_left fun e he => ?_
  rw [ClaimEntry.joinedBy_eq]
  simp only [h.mem_resources he]

/-! ## Answers and deferrals -/

/-- R38, R39: the entry after a GRANT decision for `p` that joins the queue. -/
def ClaimEntry.grantsTo (p : Station) (q : ClaimSeq) (e : ClaimEntry) : ClaimEntry :=
  if e.reawaits p then (e.dropStaleWaiter p q).awaits p else e.dropStaleWaiter p q

theorem ClaimEntry.dropStaleWaiter_resource (p : Station) (q : ClaimSeq) (e : ClaimEntry) :
    (e.dropStaleWaiter p q).resource = e.resource := by
  unfold ClaimEntry.dropStaleWaiter
  split <;> rfl

theorem State.grantClaim_joined {s : State} (h : s.Keyed) {p : Station} {r : Resource} {q : ClaimSeq}
    {queue : List GrantItem} (joins : joinAnswers s.answers { target := p, resource := r, seq := q } = some queue) :
    (s.grantClaim p r q).claims.table = changeAt r (ClaimEntry.grantsTo p q) s.claims.table
      ∧ (s.grantClaim p r q).answers = queue := by
  unfold State.grantClaim
  rw [joins]
  dsimp only
  have keyed : ({ s with answers := queue }.modifyEntry r (ClaimEntry.dropStaleWaiter p q)).Keyed :=
    Ascending.changeAt h r (ClaimEntry.dropStaleWaiter_resource p q)
  split
  · rename_i again
    obtain ⟨e, he, reawaits⟩ := (Option.any_eq_true _ _).mp again
    refine ⟨?_, by rw [State.await_answers]; rfl⟩
    rw [State.await_table keyed, State.modifyEntry_changeAt,
      changeAt_changeAt _ _ _ (ClaimEntry.dropStaleWaiter_resource p q)]
    exact h.changeAt_eq he (by simp [ClaimEntry.grantsTo, reawaits])
  · rename_i again
    refine ⟨?_, rfl⟩
    cases he : s.entry? r with
    | none => exact (changeAt_of_none (s := s) he _).trans (changeAt_of_none he _).symm
    | some e =>
      refine h.changeAt_eq he ?_
      rw [he, Option.any_some] at again
      simp [ClaimEntry.grantsTo, again]

/-- R41: a full queue drops the GRANT with all that follows from it. -/
theorem State.grantClaim_dropped {s : State} {p : Station} {r : Resource} {q : ClaimSeq}
    (drops : joinAnswers s.answers { target := p, resource := r, seq := q } = none) : s.grantClaim p r q = s := by
  unfold State.grantClaim
  rw [drops]

/-- R37: the entry after a deferral. -/
def ClaimEntry.defers (w : Waiter) (e : ClaimEntry) : ClaimEntry := if e.recordsDeferrals then e.recordWaiter w else e

theorem State.deferClaim_table (s : State) (p : Station) (r : Resource) (q : ClaimSeq) (t : Clock) :
    (s.deferClaim p r q t).claims.table =
      changeAt r (ClaimEntry.defers { station := p, stamp := t, seq := q }) s.claims.table := rfl

/-- R47: the entry after its station's claim has ended. -/
def ClaimEntry.dropWaiter (x : Station) (e : ClaimEntry) : ClaimEntry :=
  { e with waiters := e.waiters.filter fun w => w.station != x }

theorem State.answerFree_table (s : State) (h : Header) (r : Resource) :
    (s.answerFree h r).claims.table =
      if s.isMember h.source h.incarnation then changeAt r (ClaimEntry.dropWaiter h.source) s.claims.table
      else s.claims.table := by
  unfold State.answerFree
  split <;> rfl

/-! ## Own frames -/

/-- R10: the entry whose frame has left the line. -/
def ClaimEntry.offLine (e : ClaimEntry) : ClaimEntry := { e with slot := { e.slot with onLine := none } }

theorem State.slotCompletes_table (s : State) (r : Resource) :
    (s.slotCompletes r).claims.table = changeAt r ClaimEntry.offLine s.claims.table := by
  rw [State.slotCompletes_claims]
  rfl

/-- R20: the entry whose re-send has completed, less its slot. -/
def ClaimEntry.resendDone (due : Nat) (e : ClaimEntry) : ClaimEntry :=
  ({ e with resendCount := min Config.resendCountTop (e.resendCount + 1) }).awaitNext due

theorem State.resendCompletes_eq (s : State) (r : Resource) :
    s.resendCompletes r = (s.slotCompletes r).modifyEntry r (ClaimEntry.resendDone s.nextResend) := rfl

/-- R13: the entry that is handed over, if it is QUEUED with its first CLAIM waiting. -/
def ClaimEntry.handedOver (stamp : Clock) (awaiting : List Station) (e : ClaimEntry) : ClaimEntry :=
  if e.state == .queued && e.slot.unsent == some .firstClaim then
    { e with state := .wanted, stamp := some stamp, awaiting := awaiting, announced := false, resendDue := none }
  else e

theorem State.handOverIfQueued_table {s : State} (h : s.Keyed) (r : Resource) :
    (s.handOverIfQueued r).claims.table =
      changeAt r (ClaimEntry.handedOver (s.claims.clock + 1) (s.interested r)) s.claims.table := by
  unfold State.handOverIfQueued
  split
  · rename_i due
    obtain ⟨e, he, queued⟩ := (Option.any_eq_true _ _).mp due
    exact h.changeAt_eq he (by simp [ClaimEntry.handedOver, queued])
  · rename_i due
    refine (changeAt_id fun e hm hr => ?_).symm
    rw [h.entry?_eq_some.mpr ⟨hm, hr⟩, Option.any_some] at due
    simp [ClaimEntry.handedOver, due]

theorem ClaimEntry.handedOver_resource (stamp : Clock) (awaiting : List Station) (e : ClaimEntry) :
    (e.handedOver stamp awaiting).resource = e.resource := by
  unfold ClaimEntry.handedOver
  split <;> rfl

end Sys2Proof.Machine

/-! PROOFS. The laws of the claim table are kept by every move (R6 to R9, R18, R25). -/

namespace Sys2Proof.Machine

/-! ## One entry -/

/-- What the laws of an entry say before a move to HELD has taken it, if it is ready for one. -/
structure ClaimEntry.AlmostLawful (e : ClaimEntry) : Prop where
  heldAnswered : e.state = .held → e.awaiting = [] ∧ e.announced = true ∧ e.wasHeld = true
  heldTimers : e.state = .held → e.patience = none ∧ e.resendDue = none
  awaitingWanted : e.awaiting ≠ [] → e.state = .wanted
  waitersRecorded : e.waiters ≠ [] → e.recordsDeferrals = true
  wasHeldStates : e.wasHeld = true → e.state = .held ∨ e.state = .releasing .released

theorem ClaimEntry.Lawful.almost {e : ClaimEntry} (h : e.Lawful) : e.AlmostLawful :=
  ⟨h.heldAnswered, h.heldTimers, h.awaitingWanted, h.waitersRecorded, h.wasHeldStates⟩

/-- R18: the move to HELD leaves no announced WANTED entry without an awaited answer. -/
theorem ClaimEntry.AlmostLawful.heldIfReady {e : ClaimEntry} (h : e.AlmostLawful) : e.heldIfReady.Lawful := by
  unfold ClaimEntry.heldIfReady
  split
  · rename_i ready
    simp only [ClaimEntry.readyToHold, Bool.and_eq_true, beq_iff_eq, List.isEmpty_iff] at ready
    obtain ⟨⟨-, announced⟩, none⟩ := ready
    exact ⟨fun _ => ⟨none, announced, rfl⟩, fun _ => ⟨rfl, rfl⟩, fun some => absurd none some, fun hs => (nomatch hs),
      fun _ => rfl, fun _ => .inl rfl⟩
  · rename_i ready
    refine ⟨h.heldAnswered, h.heldTimers, h.awaitingWanted, fun wanted announced none => ready ?_, h.waitersRecorded,
      h.wasHeldStates⟩
    simp [ClaimEntry.readyToHold, wanted, announced, none]

theorem ClaimEntry.heldIfReady_of_not {e : ClaimEntry} (h : ¬ (e.state = .wanted ∧ e.announced = true ∧ e.awaiting = [])) :
    e.heldIfReady = e := by
  refine if_neg fun ready => h ?_
  simpa [ClaimEntry.readyToHold, and_assoc] using ready

namespace ClaimEntry.Lawful

variable {e : ClaimEntry}

theorem slot (h : e.Lawful) (slot : EntrySlot) : ClaimEntry.Lawful { e with slot := slot } :=
  ⟨h.heldAnswered, h.heldTimers, h.awaitingWanted, h.wantedAwaits, h.waitersRecorded, h.wasHeldStates⟩

theorem resendCount (h : e.Lawful) (n : Nat) : ClaimEntry.Lawful { e with resendCount := n } :=
  ⟨h.heldAnswered, h.heldTimers, h.awaitingWanted, h.wantedAwaits, h.waitersRecorded, h.wasHeldStates⟩

theorem releases (h : e.Lawful) {reason : CloseReason} (hs : e.state = .wanted ∨ e.state = .held ∧ reason = .released) :
    (e.releases reason).Lawful := by
  refine ⟨fun hs => (nomatch hs), fun hs => (nomatch hs), fun ne => absurd rfl ne, fun hs => (nomatch hs), fun ne => absurd rfl ne,
    fun was => .inr ?_⟩
  rcases hs with wanted | ⟨-, rfl⟩
  · rcases h.wasHeldStates was with hs | hs <;> simp [wanted] at hs
  · rfl

theorem resent (h : e.Lawful) : e.resent.Lawful :=
  ⟨h.heldAnswered, fun hs => ⟨(h.heldTimers hs).1, rfl⟩, h.awaitingWanted, h.wantedAwaits, h.waitersRecorded, h.wasHeldStates⟩

theorem insertStation_ne_nil (x : Station) (l : List Station) : insertStation x l ≠ [] :=
  List.ne_nil_of_mem (self_mem_insertAsc _ x l)

theorem awaits (h : e.Lawful) (x : Station) : (e.awaits x).Lawful := by
  unfold ClaimEntry.awaits
  split
  · rename_i wanted
    have joined : ClaimEntry.Lawful { e with awaiting := insertStation x e.awaiting } :=
      ⟨fun hs => by simp [wanted] at hs, fun hs => by simp [wanted] at hs, fun _ => wanted,
        fun _ _ => insertStation_ne_nil x _, h.waitersRecorded, h.wasHeldStates⟩
    split
    · exact joined.resent
    · exact joined
  · exact h

theorem purge_almost (h : e.Lawful) (x : Station) : (e.purge x).AlmostLawful := by
  refine ⟨fun held => ?_, h.heldTimers, fun ne => h.awaitingWanted fun none => ne ?_,
    fun ne => h.waitersRecorded fun none => ne ?_, h.wasHeldStates⟩
  · obtain ⟨none, announced, was⟩ := h.heldAnswered held
    exact ⟨by simp [ClaimEntry.purge, none], announced, was⟩
  · simp [ClaimEntry.purge, none]
  · simp [ClaimEntry.purge, none]

/-- A purge makes ready no entry that did not await the purged station. -/
theorem purged_eq (h : e.Lawful) (x : Station) : e.purged x = (e.purge x).heldIfReady := by
  rw [← ClaimEntry.purge_heldIfReady]
  split
  · rfl
  · rename_i incomplete
    refine (ClaimEntry.heldIfReady_of_not fun ⟨wanted, announced, nobody⟩ => ?_).symm
    have stays : x ∉ e.awaiting := fun awaited => incomplete (ClaimEntry.completedByPurge_iff.mpr
      ⟨⟨wanted, announced, awaited⟩, nobody⟩)
    refine h.wantedAwaits wanted announced (List.eq_nil_iff_forall_not_mem.mpr fun y hy => ?_)
    have : y ∈ (e.purge x).awaiting := List.mem_filter.mpr ⟨hy, by simpa using fun eq : y = x => stays (eq ▸ hy)⟩
    simp [nobody] at this

theorem purged (h : e.Lawful) (x : Station) : (e.purged x).Lawful := by
  rw [h.purged_eq]
  exact (h.purge_almost x).heldIfReady

theorem answeredBy (h : e.Lawful) (x : Station) : (e.answeredBy x).Lawful := by
  unfold ClaimEntry.answeredBy
  split
  · rename_i awaits
    rw [ClaimEntry.countAnswer_eq awaits]
    refine ClaimEntry.AlmostLawful.heldIfReady ⟨fun held => ?_, h.heldTimers, fun _ => awaits.1, h.waitersRecorded,
      h.wasHeldStates⟩
    simp [awaits.1] at held
  · exact h

theorem awaitNext (h : e.Lawful) (due : Nat) : (e.awaitNext due).Lawful := by
  unfold ClaimEntry.awaitNext
  split
  · rename_i waits
    exact ⟨h.heldAnswered, fun held => by simp [waits.1] at held, h.awaitingWanted, h.wantedAwaits, h.waitersRecorded,
      h.wasHeldStates⟩
  · exact h

theorem announce_almost (h : e.Lawful) (due : Nat) : (e.announce due).AlmostLawful := by
  have announced : ClaimEntry.AlmostLawful { e with slot := { e.slot with onLine := none }, announced := true } := by
    refine ⟨fun held => ⟨(h.heldAnswered held).1, rfl, (h.heldAnswered held).2.2⟩, h.heldTimers, h.awaitingWanted,
      fun ne => ?_, h.wasHeldStates⟩
    have recorded := h.waitersRecorded ne
    unfold ClaimEntry.recordsDeferrals at recorded ⊢
    split <;> simp_all
  unfold ClaimEntry.announce ClaimEntry.awaitNext
  split
  · rename_i waits
    exact ⟨announced.heldAnswered, fun held => (by cases held.symm.trans waits.1), announced.awaitingWanted, announced.waitersRecorded,
      announced.wasHeldStates⟩
  · exact announced

theorem joinedBy (h : e.Lawful) (x : Station) (g : Groups) : (e.joinedBy x g).Lawful := by
  rw [ClaimEntry.joinedBy_eq]
  split
  · exact h.awaits x
  · exact h

theorem waiters (h : e.Lawful) {l : List Waiter} (hl : l ≠ [] → e.recordsDeferrals = true) :
    ClaimEntry.Lawful { e with waiters := l } :=
  ⟨h.heldAnswered, h.heldTimers, h.awaitingWanted, h.wantedAwaits, hl, h.wasHeldStates⟩

theorem filterWaiters (h : e.Lawful) (p : Waiter → Bool) : ClaimEntry.Lawful { e with waiters := e.waiters.filter p } :=
  h.waiters fun ne => h.waitersRecorded fun none => ne (by simp [none])

theorem grantsTo (h : e.Lawful) (p : Station) (q : ClaimSeq) : (e.grantsTo p q).Lawful := by
  have dropped : (e.dropStaleWaiter p q).Lawful := by
    unfold ClaimEntry.dropStaleWaiter
    split
    · exact h.filterWaiters _
    · exact h
  unfold ClaimEntry.grantsTo
  split
  · exact dropped.awaits p
  · exact dropped

theorem defers (h : e.Lawful) (w : Waiter) : (e.defers w).Lawful := by
  unfold ClaimEntry.defers
  split
  · rename_i records
    unfold ClaimEntry.recordWaiter
    split
    · exact h
    · exact h.waiters fun _ => records
  · exact h

theorem handedOver (h : e.Lawful) (stamp : Clock) (awaiting : List Station) : (e.handedOver stamp awaiting).Lawful := by
  unfold ClaimEntry.handedOver
  split
  · rename_i due
    simp only [Bool.and_eq_true, beq_iff_eq] at due
    refine ⟨fun hs => (nomatch hs), fun hs => (nomatch hs), fun _ => rfl, fun _ hs => (nomatch hs), fun ne => ?_, fun was => ?_⟩
    · have := h.waitersRecorded ne
      simp [ClaimEntry.recordsDeferrals, due.1] at this
    · rcases h.wasHeldStates was with hs | hs <;> simp [due.1] at hs
  · exact h

end ClaimEntry.Lawful

/-! ## The table -/

namespace State.ClaimsLawful

variable {s t : State}

theorem keyed (h : s.ClaimsLawful) : s.Keyed := h.ascends

/-- The laws read the table, the station state and the configuration alone. -/
theorem of_parts (h : s.ClaimsLawful) (table : t.claims.table = s.claims.table) (state : t.session.state = s.session.state)
    (config : t.session.config = s.session.config) : t.ClaimsLawful := by
  have role : t.config = s.config := by simp [State.config, config]
  exact ⟨table ▸ h.bounded, table ▸ h.ascends, table ▸ h.entries, table ▸ state ▸ h.onlyMember, state ▸ role ▸ h.observing⟩

theorem of_map (h : s.ClaimsLawful) (f : ClaimEntry → ClaimEntry) (hf : ∀ e, (f e).resource = e.resource)
    (lawful : ∀ e ∈ s.claims.table, e.Lawful → (f e).Lawful) (table : t.claims.table = s.claims.table.map f)
    (session : t.session = s.session) : t.ClaimsLawful := by
  refine ⟨?_, ?_, ?_, fun outside => ?_, fun ho => ?_⟩
  · rw [table, List.length_map]
    exact h.bounded
  · rw [table]
    exact h.ascends.map f fun e => by rw [hf]
  · rw [table]
    intro e he
    obtain ⟨x, hx, rfl⟩ := List.mem_map.mp he
    exact lawful x hx (h.entries x hx)
  · rw [table, h.onlyMember (session ▸ outside), List.map_nil]
  · simpa [State.config, session] using h.observing (session ▸ ho)

theorem of_changeAt (h : s.ClaimsLawful) (r : Resource) (f : ClaimEntry → ClaimEntry)
    (hf : ∀ e, (f e).resource = e.resource) (lawful : ∀ e ∈ s.claims.table, e.resource = r → e.Lawful → (f e).Lawful)
    (table : t.claims.table = changeAt r f s.claims.table) (session : t.session = s.session) : t.ClaimsLawful := by
  refine h.of_map (fun e => if e.resource = r then f e else e) (fun e => ?_) (fun e he le => ?_) table session
  · split
    · exact hf e
    · rfl
  · split
    · rename_i hr
      exact lawful e he hr le
    · exact le

theorem of_filter (h : s.ClaimsLawful) (p : ClaimEntry → Bool) (table : t.claims.table = s.claims.table.filter p)
    (session : t.session = s.session) : t.ClaimsLawful := by
  refine ⟨?_, ?_, ?_, fun outside => ?_, fun ho => ?_⟩
  · rw [table]
    exact (List.length_filter_le _ _).trans h.bounded
  · rw [table]
    exact h.ascends.filter p
  · rw [table]
    exact fun e he => h.entries e (List.mem_filter.mp he).1
  · rw [table, h.onlyMember (session ▸ outside), List.filter_nil]
  · simpa [State.config, session] using h.observing (session ▸ ho)

theorem of_empty (table : t.claims.table = []) (observing : t.session.state = .observing → t.config.role = .observer) :
    t.ClaimsLawful :=
  ⟨by simp [table], by simp [table], by simp [table], fun _ => table, observing⟩

/-- R12: a new entry in a table with room. -/
theorem created (h : s.ClaimsLawful) {r : Resource} (patience : Option Nat)
    (room : s.claims.table.length < 16) (member : s.session.state = .member) : (s.createClaim r patience).ClaimsLawful := by
  have lawful : (ClaimEntry.created r (s.claims.seq + 1) patience s.session.tick).Lawful :=
    ⟨fun hs => (nomatch hs), fun hs => (nomatch hs), fun ne => absurd rfl ne, fun hs => (nomatch hs), fun ne => absurd rfl ne,
      fun was => (nomatch was)⟩
  have entered : State.ClaimsLawful { s with claims := { s.claims with
      seq := s.claims.seq + 1
      table := insertAsc (fun e => e.resource.val) (.created r (s.claims.seq + 1) patience s.session.tick) s.claims.table } } :=
    ⟨(length_insertAsc_le _ _ _).trans room, h.ascends.insertAsc _,
      fun e he => (mem_insertAsc _ _ _ _ he).elim (fun eq => eq ▸ lawful) (h.entries e),
      fun outside => absurd member outside, h.observing⟩
  exact entered.of_changeAt r _ (fun _ => by rfl) (fun e _ _ le => le.slot _) rfl rfl

theorem slotCompletes (h : s.ClaimsLawful) (r : Resource) : (s.slotCompletes r).ClaimsLawful :=
  h.of_changeAt r ClaimEntry.offLine (fun _ => rfl) (fun e _ _ le => le.slot _) (s.slotCompletes_table r) (by simp)

end State.ClaimsLawful

theorem State.Inner.claims_lawful {s t : State} (m : s.Inner t) (h : s.ClaimsLawful) : t.ClaimsLawful := by
  have session := m.frame.session
  cases m with
  | slotCompletes r => exact h.slotCompletes r
  | resendCompletes r =>
    exact (h.slotCompletes r).of_changeAt r (ClaimEntry.resendDone s.nextResend) (fun e => ClaimEntry.awaitNext_resource _ _)
      (fun e _ _ le => (le.resendCount _).awaitNext _) rfl rfl
  | created r patience fresh room state role =>
    exact h.created patience room (state.resolve_right fun ho => role (h.observing ho))
  | removed e he hq => exact h.of_filter _ rfl session
  | releases e reason he hs =>
    refine h.of_changeAt e.resource _ (fun _ => by rfl) (fun x hx same lx => ?_) (s.enterReleasing_table _ _) session
    obtain rfl := h.ascends.eq_of_key hx he (congrArg Fin.val same)
    exact lx.releases hs
  | resent r =>
    exact h.of_changeAt r _ (fun _ => by rfl) (fun e _ _ le => le.resent) (State.placeResend_table h.keyed r) session
  | announced r =>
    refine h.of_changeAt r _ (fun e => ?_) (fun e _ _ le => (le.announce_almost _).heldIfReady)
      (State.announced_table h.keyed r) session
    exact (ClaimEntry.heldIfReady_resource _).trans (ClaimEntry.awaitNext_resource _ _)
  | freed r e reason he hs => exact h.of_filter _ rfl session
  | answered k r x hk =>
    subst hk
    exact h.of_changeAt r _ (ClaimEntry.answeredBy_resource x) (fun e _ _ le => le.answeredBy x)
      (Take.answered_table h.keyed r x) session
  | deferred p r q t hp =>
    refine h.of_changeAt r _ (fun e => ?_) (fun e _ _ le => le.defers _) (s.deferClaim_table p r q t) session
    unfold ClaimEntry.defers ClaimEntry.recordWaiter
    split <;> [(split <;> rfl); rfl]
  | granted p r q hp state notHeld =>
    cases joins : joinAnswers s.answers { target := p, resource := r, seq := q } with
    | none => rwa [State.grantClaim_dropped joins]
    | some queue =>
      refine h.of_changeAt r _ (fun e => ?_) (fun e _ _ le => le.grantsTo p q) (State.grantClaim_joined h.keyed joins).1
        session
      unfold ClaimEntry.grantsTo
      split
      · rw [ClaimEntry.awaits_resource, ClaimEntry.dropStaleWaiter_resource]
      · rw [ClaimEntry.dropStaleWaiter_resource]
  | freeReceived x r =>
    have table := s.answerFree_table x r
    split at table
    · exact h.of_changeAt r _ (fun _ => by rfl) (fun e _ _ le => le.filterWaiters _) table session
    · exact h.of_parts table (by rw [session]) (by rw [session])
  | purge k x hk =>
    subst hk
    refine h.of_map _ (fun e => ?_) (fun e _ le => le.purged x) (Take.purge_table h.keyed x) session
    unfold ClaimEntry.purged
    dsimp only
    split
    · rw [ClaimEntry.countAnswer_resource]
    · rfl
  | enrol x p =>
    refine h.of_map _ (fun e => ?_) (fun e _ le => le.joinedBy _ _) (State.enrol_table h.keyed x p) session
    rw [ClaimEntry.joinedBy_eq]
    split
    · exact e.awaits_resource _
    · rfl
  | addPeer k r x i src hk =>
    subst hk
    exact h.of_parts rfl rfl rfl
  | line | clock | schedule | requestPresence | presenceDone | withdrawDone | grantDone | members | dropPeers | dropUnlisted
  | dropPeerAt | endWindow => exact h.of_parts rfl rfl rfl

namespace State.ClaimsLawful

variable {s : State}

theorem setCounts (h : s.ClaimsLawful) (a b : Nat) : (s.setCounts a b).ClaimsLawful :=
  h.of_parts (by simp) (by simp) (by simp)

theorem takeSilencing (h : s.ClaimsLawful) : s.takeSilencing.ClaimsLawful := by
  obtain silent | setup | same := s.takeSilencing_cases
  · rw [silent]
    exact of_empty rfl fun hs => (nomatch hs)
  · rw [setup]
    exact of_empty rfl fun hs => (nomatch hs)
  · rwa [same]

theorem countSendFault (h : s.ClaimsLawful) : s.countSendFault.ClaimsLawful := by
  unfold State.countSendFault
  split
  · exact h
  · split
    · exact takeSilencing (h.of_parts rfl rfl rfl)
    · exact h.setCounts _ _

theorem frameReturned (h : s.ClaimsLawful) (f : SentFrame) : (s.frameReturned f).ClaimsLawful := by
  have session := (s.frameReturned_frame f).1.session
  unfold State.frameReturned State.returnRequest at session ⊢
  dsimp only at session ⊢
  have failed (r : Resource) : State.ClaimsLawful
      ({ s with line := s.line.ownFrameEnds .fixed s.line.base }.modifyEntry r ClaimEntry.slotFails) :=
    h.of_changeAt r ClaimEntry.slotFails (fun _ => by rfl) (fun e _ _ le => le.slot _) rfl rfl
  split
  · split
    · exact h.of_parts rfl rfl rfl
    · exact h.of_parts rfl rfl rfl
    · exact h.of_parts rfl rfl rfl
    · exact failed _
    · exact failed _
    · exact failed _
  · exact h.of_parts rfl rfl rfl

theorem handOverIfQueued (h : s.ClaimsLawful) (r : Resource) : (s.handOverIfQueued r).ClaimsLawful :=
  h.of_changeAt r _ (ClaimEntry.handedOver_resource _ _) (fun _ _ _ le => le.handedOver _ _)
    (State.handOverIfQueued_table h.keyed r) (s.handOverIfQueued_frame r).session

theorem send (h : s.ClaimsLawful) (c : Choice) (k : Slot) : (s.send c k).ClaimsLawful := by
  rcases c with g | (_ | _ | r)
  · exact h.of_parts rfl rfl rfl
  · exact h.of_parts rfl rfl rfl
  · exact h.of_parts rfl rfl rfl
  · have alternated : (s.alternate 0).ClaimsLawful := h.of_parts rfl rfl rfl
    obtain same | ⟨_, kind, body, -, -, -, -, sent⟩ := (s.alternate 0).sendEntry_cases r k
    · simpa only [State.send, State.sendOwn, same] using alternated
    · simp only [State.send, State.sendOwn, sent]
      exact (alternated.handOverIfQueued r).of_changeAt r ClaimEntry.slotSends (fun _ => by rfl) (fun e _ _ le => le.slot _) rfl
        rfl

end State.ClaimsLawful

/-- Every move keeps the laws of the claim table. -/
theorem State.Move.claims_lawful {s t : State} (m : s.Move t) (h : s.ClaimsLawful) : t.ClaimsLawful := by
  have outside (hs : s.session.state ≠ .member) : s.claims.table = [] := h.onlyMember hs
  cases m with
  | inner m => exact m.claims_lawful h
  | timers c number config state reset => exact h.of_parts rfl state config
  | counts a b => exact h.setCounts a b
  | recovered state => exact .of_empty (outside (by simp [state])) fun hs => (nomatch hs)
  | configured c state => exact .of_empty (outside (by simp [state])) fun hs => by cases state.symm.trans hs
  | started state => exact .of_empty (outside (by simp [state])) fun hs => (nomatch hs)
  | startedSilent state => exact .of_empty (outside (by simp [state])) fun hs => (nomatch hs)
  | leftMember state => exact .of_empty rfl fun hs => (nomatch hs)
  | leftAtOnce state => exact .of_empty rfl fun hs => (nomatch hs)
  | windowEnds st state role =>
    refine .of_empty (outside (by simp [state])) fun hs => ?_
    obtain ⟨rfl, -⟩ | ⟨-, observer⟩ := role
    · cases hs
    · exact observer
  | lapsed o state => exact .of_empty rfl fun hs => (nomatch hs)
  | duplicate => exact .of_empty rfl fun hs => (nomatch hs)
  | promoted state => exact .of_empty (outside (by simp [state])) fun hs => (nomatch hs)
  | withdrawn state => exact .of_empty (outside (by simp [state])) fun hs => (nomatch hs)
  | sends c k => exact h.send c k
  | fails f =>
    rw [State.frameFails_eq]
    exact (h.frameReturned f).countSendFault
  | link | notices | dismissed | progress | released => exact h.of_parts rfl rfl rfl

theorem State.claimsLawful_fullReset (s : State) : s.fullReset.ClaimsLawful := .of_empty rfl fun hs => (nomatch hs)

theorem step_keeps_claimsLawful {s t : State} (h : s.ClaimsLawful) (hs : step s = .next t) : t.ClaimsLawful :=
  step_keeps (P := State.ClaimsLawful) (fun _ _ h => h.of_parts rfl rfl rfl) State.claimsLawful_fullReset
    State.Move.claims_lawful h hs

end Sys2Proof.Machine

/-! PROOFS. The laws of the own-frame slots are kept by every move (R10, R143, R145). -/

namespace Sys2Proof.Machine

/-! ## Requests and the placement order -/

/-- The entry's slot holds a request, on the line or unsent (R10). -/
def ClaimEntry.Requests (e : ClaimEntry) : Prop := e.slot.unsent ≠ none ∨ e.slot.onLine ≠ none

/-- The slot of the resource's entry holds a request. -/
def State.Requests (s : State) (r : Resource) : Prop := ∃ e, s.entry? r = some e ∧ e.Requests

theorem SendScheduler.mem_place {c : SendScheduler} {m n : SlotName} : n ∈ (c.place m).order ↔ n = m ∨ n ∈ c.order := by
  by_cases h : n = m <;> simp [SendScheduler.place, h]

theorem SendScheduler.mem_forget {c : SendScheduler} {m n : SlotName} : n ∈ (c.forget m).order ↔ n ∈ c.order ∧ n ≠ m := by
  simp [SendScheduler.forget]

theorem SendScheduler.nodup_place {c : SendScheduler} (h : c.order.Nodup) (m : SlotName) : (c.place m).order.Nodup := by
  refine List.nodup_append.mpr ⟨h.filter _, List.nodup_singleton m, fun a ha b hb => ?_⟩
  rw [List.mem_singleton.mp hb]
  simpa using (List.mem_filter.mp ha).2

theorem SendScheduler.nodup_forget {c : SendScheduler} (h : c.order.Nodup) (m : SlotName) : (c.forget m).order.Nodup :=
  h.filter _

theorem State.entry?_changeAt {s t : State} {r : Resource} {f : ClaimEntry → ClaimEntry}
    (hf : ∀ e, (f e).resource = e.resource) (table : t.claims.table = changeAt r f s.claims.table) (r' : Resource) :
    t.entry? r' = if r' = r then (s.entry? r').map f else s.entry? r' :=
  (State.entry?_congr (s := s.modifyEntry r f) table r').trans (State.entry?_modifyEntry s r r' f hf)

/-- A live own frame of `t` was the own frame of `s`. -/
def LineInterface.Keeps (l m : LineInterface) : Prop := ∀ f, m.onLine = some f → f.live = true → l.onLine = some f

theorem LineInterface.Keeps.of_none {l m : LineInterface} (h : m.onLine = none) : l.Keeps m := fun _ hf => by simp [h] at hf

theorem LineInterface.Keeps.of_eq {l m : LineInterface} (h : m.onLine = l.onLine) : l.Keeps m := fun _ hf _ => h ▸ hf

theorem LineInterface.Keeps.trans {l m n : LineInterface} (h : l.Keeps m) (k : m.Keeps n) : l.Keeps n := fun f hf live =>
  h f (k f hf live) live

/-- R95: a frame that is cut loose is live no longer. -/
theorem LineInterface.keeps_cutLoose (l : LineInterface) (p : SentFrame → Bool) : l.Keeps (l.cutLoose p) := by
  intro f hf live
  obtain ⟨g, hg, eq⟩ := Option.map_eq_some_iff.mp hf
  split at eq
  · simp [← eq] at live
  · rw [hg, eq]

theorem LineInterface.keeps_cutLoose_all {l m : LineInterface} (h : m.onLine = (l.cutLoose fun _ => true).onLine) :
    l.Keeps m := (l.keeps_cutLoose _).trans (.of_eq h)

namespace State.SlotsLawful

variable {s t : State}

/-- R145: an entry's slot has a place where it holds a request. -/
theorem entry_placed (h : s.SlotsLawful) (r : Resource) : SlotName.entry r ∈ s.scheduler.order ↔ s.Requests r := h.entries r

/-- The laws with what a change of the entries' slots leaves alone. -/
theorem update (h : s.SlotsLawful) (presence : t.scheduler.presence = s.scheduler.presence)
    (withdraw : t.scheduler.withdraw = s.scheduler.withdraw) (line : s.line.Keeps t.line) (once : t.scheduler.order.Nodup)
    (names : ∀ n, (∀ r, n ≠ .entry r) → (n ∈ t.scheduler.order ↔ n ∈ s.scheduler.order))
    (entries : ∀ r, SlotName.entry r ∈ t.scheduler.order ↔ t.Requests r) : t.SlotsLawful := by
  refine ⟨once, ?_, ?_, entries, fun f p hf live body => ?_, fun f hf live body => ?_⟩
  · rw [names _ (by simp), withdraw]
    exact h.withdraw
  · rw [names _ (by simp), presence]
    exact h.presence
  · rw [presence]
    exact h.presenceOnLine f p (line f hf live) live body
  · rw [withdraw]
    exact h.withdrawOnLine f (line f hf live) live body

/-- The laws read the claim table, the line and the Send Scheduler's slots and order alone. -/
theorem of_parts (h : s.SlotsLawful) (table : t.claims.table = s.claims.table) (line : s.line.Keeps t.line)
    (order : t.scheduler.order = s.scheduler.order) (presence : t.scheduler.presence = s.scheduler.presence)
    (withdraw : t.scheduler.withdraw = s.scheduler.withdraw) : t.SlotsLawful := by
  refine h.update presence withdraw line (order ▸ h.once) (fun n _ => by rw [order]) fun r => ?_
  rw [order, State.Requests, State.entry?_congr table]
  exact h.entries r

theorem of_same (h : s.SlotsLawful) (table : t.claims.table = s.claims.table) (line : s.line.Keeps t.line)
    (scheduler : t.scheduler = s.scheduler) : t.SlotsLawful :=
  h.of_parts table line (by rw [scheduler]) (by rw [scheduler]) (by rw [scheduler])

/-- The slot keeps its request, or its lack of one. -/
theorem kept (h : s.SlotsLawful) {r : Resource} {f : ClaimEntry → ClaimEntry} (hf : ∀ e, (f e).resource = e.resource)
    (table : t.claims.table = changeAt r f s.claims.table) (line : s.line.Keeps t.line) (scheduler : t.scheduler = s.scheduler)
    (requests : ∀ e, s.entry? r = some e → ((f e).Requests ↔ e.Requests)) : t.SlotsLawful := by
  refine h.update (by rw [scheduler]) (by rw [scheduler]) line (scheduler ▸ h.once) (fun n _ => by rw [scheduler]) fun r' => ?_
  rw [scheduler, h.entry_placed r', State.Requests, State.Requests, State.entry?_changeAt hf table]
  split
  · rename_i eq
    subst eq
    cases he : s.entry? r' with
    | none => simp
    | some e => simpa using (requests e he).symm
  · exact .rfl

/-- The slot takes a request, and its place as the newest. -/
theorem placed (h : s.SlotsLawful) {r : Resource} {f : ClaimEntry → ClaimEntry} (hf : ∀ e, (f e).resource = e.resource)
    (table : t.claims.table = changeAt r f s.claims.table) (line : s.line.Keeps t.line)
    (scheduler : t.scheduler = s.scheduler.place (.entry r)) (requests : ∃ e, s.entry? r = some e ∧ (f e).Requests) :
    t.SlotsLawful := by
  refine h.update (by rw [scheduler]; rfl) (by rw [scheduler]; rfl) line (scheduler ▸ SendScheduler.nodup_place h.once _)
    (fun n hn => by rw [scheduler, SendScheduler.mem_place]; simp [hn r]) fun r' => ?_
  rw [scheduler, SendScheduler.mem_place, h.entry_placed r', State.Requests, State.Requests, State.entry?_changeAt hf table]
  split
  · rename_i eq
    subst eq
    obtain ⟨e, he, he'⟩ := requests
    simp [he, he']
  · rename_i ne
    simp [ne]

/-- The slot is empty, and has no place. -/
theorem forgotten (h : s.SlotsLawful) {r : Resource} {f : ClaimEntry → ClaimEntry} (hf : ∀ e, (f e).resource = e.resource)
    (table : t.claims.table = changeAt r f s.claims.table) (line : s.line.Keeps t.line)
    (scheduler : t.scheduler = s.scheduler.forget (.entry r)) (requests : ∀ e, s.entry? r = some e → ¬ (f e).Requests) :
    t.SlotsLawful := by
  refine h.update (by rw [scheduler]; rfl) (by rw [scheduler]; rfl) line (scheduler ▸ SendScheduler.nodup_forget h.once _)
    (fun n hn => by rw [scheduler, SendScheduler.mem_forget]; simp [hn r]) fun r' => ?_
  rw [scheduler, SendScheduler.mem_forget, h.entry_placed r', State.Requests, State.Requests, State.entry?_changeAt hf table]
  split
  · rename_i eq
    subst eq
    cases he : s.entry? r' with
    | none => simp
    | some e => simpa using requests e he
  · rename_i ne
    simp [ne]

/-! ## The Claim Engine's operations -/

theorem modifyEntry (h : s.SlotsLawful) (r : Resource) {f : ClaimEntry → ClaimEntry} (hf : ∀ e, (f e).resource = e.resource)
    (slot : ∀ e, (f e).slot = e.slot) : (s.modifyEntry r f).SlotsLawful :=
  h.kept hf rfl (.of_eq rfl) rfl fun e _ => by simp [ClaimEntry.Requests, slot]

theorem removeEntry (h : s.SlotsLawful) (r : Resource) : (s.removeEntry r).SlotsLawful := by
  refine h.update rfl rfl (s.line.keeps_cutLoose _) (SendScheduler.nodup_forget h.once _)
    (fun n hn => by simp [State.removeEntry, SendScheduler.mem_forget, hn r]) fun r' => ?_
  have forgotten : SlotName.entry r' ∈ (s.removeEntry r).scheduler.order ↔ SlotName.entry r' ∈ s.scheduler.order ∧ r' ≠ r := by
    simp [State.removeEntry, SendScheduler.mem_forget]
  rw [forgotten, h.entries r', State.Requests, State.entry?_removeEntry]
  by_cases eq : r' = r <;> simp [eq, ClaimEntry.Requests]

theorem slotCompletes (h : s.SlotsLawful) (r : Resource) : (s.slotCompletes r).SlotsLawful := by
  have hf (e : ClaimEntry) : e.offLine.resource = e.resource := rfl
  have table := s.slotCompletes_table r
  have line : s.line.Keeps (s.slotCompletes r).line := .of_eq (by simp)
  cases he : s.entry? r with
  | none =>
    exact h.forgotten hf table line (by simp [State.slotCompletes, he]) fun e he' => by simp [he] at he'
  | some e =>
    have scheduler := State.slotCompletes_scheduler he
    split at scheduler
    · rename_i empty
      refine h.forgotten hf table line scheduler fun e' he' => ?_
      obtain rfl := Option.some.inj (he.symm.trans he')
      simp [ClaimEntry.Requests, ClaimEntry.offLine, empty]
    · rename_i waits
      refine h.kept hf table line scheduler fun e' he' => ?_
      obtain rfl := Option.some.inj (he.symm.trans he')
      simp [ClaimEntry.Requests, ClaimEntry.offLine, waits]

theorem placeResend (h : s.SlotsLawful) (keyed : s.Keyed) (r : Resource) : (s.placeResend r).SlotsLawful := by
  have table := State.placeResend_table keyed r
  have line : s.line.Keeps (s.placeResend r).line := .of_eq (by simp)
  cases he : s.entry? r with
  | none =>
    have same : s.placeResend r = s := by simp [State.placeResend, he]
    rwa [same]
  | some e =>
    have scheduler := State.placeResend_scheduler he
    split at scheduler
    · exact h.placed (f := ClaimEntry.resent) (fun _ => rfl) table line scheduler ⟨e, he, .inl (by simp [ClaimEntry.resent])⟩
    · rename_i waits
      refine h.kept (f := ClaimEntry.resent) (fun _ => rfl) table line scheduler fun e' he' => ?_
      obtain rfl := Option.some.inj (he.symm.trans he')
      simp [ClaimEntry.Requests, ClaimEntry.resent, waits]

theorem await (h : s.SlotsLawful) (keyed : s.Keyed) (r : Resource) (x : Station) : (s.await r x).SlotsLawful := by
  have joined := h.modifyEntry r (f := fun y => { y with awaiting := insertStation x y.awaiting }) (fun _ => rfl) fun _ => rfl
  have keyed' : (s.modifyEntry r fun y => { y with awaiting := insertStation x y.awaiting }).Keyed :=
    Ascending.changeAt keyed r fun _ => by rfl
  unfold State.await
  split
  · exact h
  · split
    · dsimp only
      split
      · exact (joined.modifyEntry r (fun _ => by rfl) fun _ => by rfl).placeResend
          (Ascending.changeAt keyed' r fun _ => by rfl) r
      · exact joined
    · exact h

theorem foldl_await (l : List Resource) (x : Station) {s : State} (h : s.SlotsLawful) (keyed : s.Keyed) :
    (l.foldl (fun t r => t.await r x) s).SlotsLawful := by
  induction l generalizing s with
  | nil => exact h
  | cons r l ih => exact ih (h.await keyed r x) (State.await_keyed keyed r x)

/-- The move to HELD places the HOLD. -/
theorem moveToHeld {k : Take} (h : k.state.SlotsLawful) (r : Resource) : (k.moveToHeld r).state.SlotsLawful := by
  by_cases ready : ∃ e, k.state.entry? r = some e ∧ e.readyToHold = true
  · obtain ⟨e, he, hr⟩ := ready
    obtain ⟨-, table, -, scheduler, -⟩ := Take.moveToHeld_ready he hr
    refine h.placed (f := ClaimEntry.held) (fun _ => rfl) table ?_ scheduler ⟨e, he, .inl (by simp [ClaimEntry.held])⟩
    simp only [Take.moveToHeld, he, hr, if_true]
    exact k.state.line.keeps_cutLoose _
  · rwa [Take.moveToHeld_of_not fun e he => Bool.eq_false_iff.mpr fun hr => ready ⟨e, he, hr⟩]

theorem foldl_moveToHeld (l : List Resource) {k : Take} (h : k.state.SlotsLawful) :
    (l.foldl Take.moveToHeld k).state.SlotsLawful := by
  induction l generalizing k with
  | nil => exact h
  | cons r l ih => exact ih (h.moveToHeld r)

theorem purge {k : Take} (h : k.state.SlotsLawful) (x : Station) : (k.purge x).state.SlotsLawful := by
  refine foldl_moveToHeld _ (h.update rfl rfl (k.state.line.keeps_cutLoose _) h.once (fun _ _ => .rfl) fun r => ?_)
  have entry : (k.state.claims.table.map (ClaimEntry.purge x)).find? (·.resource == r) =
      (k.state.entry? r).map (ClaimEntry.purge x) := find?_map_of_keeps _ (ClaimEntry.purge x) (fun _ => rfl) _
  refine (h.entry_placed r).trans ?_
  show _ ↔ ∃ e, (k.state.claims.table.map (ClaimEntry.purge x)).find? (·.resource == r) = some e ∧ _
  rw [entry, State.Requests]
  cases k.state.entry? r <;> simp [ClaimEntry.Requests, ClaimEntry.purge]

theorem answered {k : Take} (h : k.state.SlotsLawful) (r : Resource) (x : Station) : (k.answered r x).state.SlotsLawful := by
  unfold Take.answered
  split
  · exact h
  · split
    · have counted := h.modifyEntry r (f := fun y => { y with awaiting := y.awaiting.filter (· != x) }) (fun _ => by rfl) fun _ => by rfl
      exact moveToHeld (k := ⟨_, k.granted, k.conflicts⟩) counted r
    · exact h

theorem awaitNext_slot (due : Nat) (e : ClaimEntry) : (e.awaitNext due).slot = e.slot := by
  unfold ClaimEntry.awaitNext
  split <;> rfl

theorem announced (h : s.SlotsLawful) (r : Resource) : ((s.markAnnounced r).begin.moveToHeld r).state.SlotsLawful :=
  moveToHeld (k := (s.markAnnounced r).begin) ((h.slotCompletes r).modifyEntry r (fun _ => ClaimEntry.awaitNext_resource _ _)
    fun _ => awaitNext_slot _ _) r

theorem granted (h : s.SlotsLawful) (keyed : s.Keyed) (p : Station) (r : Resource) (q : ClaimSeq) :
    (s.grantClaim p r q).SlotsLawful := by
  have slot (e : ClaimEntry) : (e.dropStaleWaiter p q).slot = e.slot := by
    unfold ClaimEntry.dropStaleWaiter
    split <;> rfl
  unfold State.grantClaim
  split
  · exact h
  · rename_i queue _
    have queued : State.SlotsLawful { s with answers := queue } := h.of_same rfl (.of_eq rfl) rfl
    have dropped := queued.modifyEntry r (ClaimEntry.dropStaleWaiter_resource p q) slot
    dsimp only
    split
    · exact dropped.await (Ascending.changeAt keyed r (ClaimEntry.dropStaleWaiter_resource p q)) r p
    · exact dropped

theorem deferred (h : s.SlotsLawful) (p : Station) (r : Resource) (q : ClaimSeq) (t : Clock) :
    (s.deferClaim p r q t).SlotsLawful := by
  refine h.modifyEntry r (fun e => ?_) fun e => ?_
  all_goals
    unfold ClaimEntry.recordWaiter
    split <;> [(split <;> rfl); rfl]

/-- R12: the new entry's slot holds its first CLAIM. -/
theorem created (h : s.SlotsLawful) (r : Resource) (patience : Option Nat) (fresh : s.entry? r = none) :
    (s.createClaim r patience).SlotsLawful := by
  have order (n : SlotName) : n ∈ (s.createClaim r patience).scheduler.order ↔ n = .entry r ∨ n ∈ s.scheduler.order :=
    SendScheduler.mem_place
  refine h.update rfl rfl (.of_eq rfl) (SendScheduler.nodup_place h.once _) (fun n hn => (order n).trans (by simp [hn r]))
    fun r' => ?_
  rw [order, h.entry_placed r', State.Requests, State.Requests, State.entry?_createClaim patience fresh]
  by_cases eq : r' = r
  · simp [eq, ClaimEntry.Requests]
  · simp [eq]

/-! ## The Send Scheduler's own slots -/

theorem requestPresence (h : s.SlotsLawful) : State.SlotsLawful { s with scheduler := s.scheduler.requestPresence } := by
  unfold SendScheduler.requestPresence
  split
  · rename_i empty
    refine ⟨SendScheduler.nodup_place h.once _, ?_, ?_, fun r => ?_, fun f p hf live body => ?_, h.withdrawOnLine⟩
    · rw [SendScheduler.mem_place]
      simpa [SendScheduler.place] using h.withdraw
    · rw [SendScheduler.mem_place]
      simp [SendScheduler.place]
    · exact SendScheduler.mem_place.trans (Iff.trans (by simp) (h.entry_placed r))
    · have := h.presenceOnLine f p hf live body
      simp [empty] at this
  · exact h

theorem presenceDone (h : s.SlotsLawful) (due : Option Nat) (idle : s.line.onLine = none) :
    State.SlotsLawful { s with scheduler := s.scheduler.presenceDone due } := by
  refine ⟨SendScheduler.nodup_forget h.once _, ?_, ?_, fun r => ?_, fun f p hf => ?_, fun f hf => ?_⟩
  · exact SendScheduler.mem_forget.trans (by simpa [SendScheduler.presenceDone, SendScheduler.forget] using h.withdraw)
  · exact SendScheduler.mem_forget.trans (by simp [SendScheduler.presenceDone])
  · exact SendScheduler.mem_forget.trans (Iff.trans (by simp) (h.entry_placed r))
  · simp [idle] at hf
  · simp [idle] at hf

theorem withdrawDone (h : s.SlotsLawful) (idle : s.line.onLine = none) :
    State.SlotsLawful { s with scheduler := s.scheduler.withdrawDone } := by
  refine ⟨SendScheduler.nodup_forget h.once _, ?_, ?_, fun r => ?_, fun f p hf => ?_, fun f hf => ?_⟩
  · exact SendScheduler.mem_forget.trans (by simp [SendScheduler.withdrawDone])
  · exact SendScheduler.mem_forget.trans (by simpa [SendScheduler.withdrawDone, SendScheduler.forget] using h.presence)
  · exact SendScheduler.mem_forget.trans (Iff.trans (by simp) (h.entry_placed r))
  · simp [idle] at hf
  · simp [idle] at hf

/-- R143: empty slots, with no live frame on the line. -/
theorem of_reset (table : t.claims.table = []) (line : ∀ f, t.line.onLine = some f → f.live = false)
    (scheduler : t.scheduler = .reset) : t.SlotsLawful := by
  have dead {f : SentFrame} (hf : t.line.onLine = some f) (live : f.live = true) : False := by simp [line f hf] at live
  refine ⟨by simp [scheduler, SendScheduler.reset], by simp [scheduler, SendScheduler.reset],
    by simp [scheduler, SendScheduler.reset], fun r => ?_, fun f p hf live => (dead hf live).elim,
    fun f hf live => (dead hf live).elim⟩
  simp [scheduler, SendScheduler.reset, State.entry?, ClaimEngine.entry?, table]

end State.SlotsLawful

theorem LineInterface.cutLoose_all_dead {l : LineInterface} {f : SentFrame}
    (h : (l.cutLoose fun _ => true).onLine = some f) : f.live = false := by
  obtain ⟨g, -, eq⟩ := Option.map_eq_some_iff.mp h
  simp [← eq]

theorem State.Inner.slots_lawful {s t : State} (m : s.Inner t) (c : s.ClaimsLawful) (h : s.SlotsLawful) : t.SlotsLawful := by
  cases m with
  | line l hl =>
    refine h.of_same rfl ?_ rfl
    exact hl.elim .of_none .of_eq
  | schedule a d => exact h.of_parts rfl (.of_eq rfl) rfl rfl rfl
  | requestPresence => exact h.requestPresence
  | presenceDone due idle => exact h.presenceDone due idle
  | withdrawDone idle => exact h.withdrawDone idle
  | slotCompletes r => exact h.slotCompletes r
  | resendCompletes r =>
    exact (h.slotCompletes r).modifyEntry r (fun _ => ClaimEntry.awaitNext_resource _ _)
      fun _ => State.SlotsLawful.awaitNext_slot _ _
  | created r patience fresh room state role => exact h.created r patience fresh
  | removed e he hq => exact h.removeEntry _
  | releases e reason he hs =>
    exact h.placed (fun _ => by rfl) (s.enterReleasing_table _ _) (.of_eq rfl) rfl
      ⟨e, c.keyed.entry?_of_mem he, .inl (by simp [ClaimEntry.releases])⟩
  | resent r => exact h.placeResend c.keyed r
  | announced r => exact h.announced r
  | freed r e reason he hs => exact (h.removeEntry r).of_same rfl (.of_eq rfl) rfl
  | answered k r x hk =>
    subst hk
    exact h.answered r x
  | deferred p r q t hp => exact h.deferred p r q t
  | granted p r q hp state notHeld => exact h.granted c.keyed p r q
  | freeReceived x r =>
    unfold State.answerFree
    split
    · have withdrawn : (s.withdrawGrants fun g => g.target == x.source && g.resource == r).SlotsLawful :=
        h.of_same rfl (s.line.keeps_cutLoose _) rfl
      exact withdrawn.modifyEntry r (fun _ => by rfl) fun _ => by rfl
    · exact h
  | purge k x hk =>
    subst hk
    exact h.purge x
  | enrol x p =>
    have admitted : State.SlotsLawful { s with roster := insertAsc (fun m => m.station.val) (Member.admitted x p) s.roster } :=
      h.of_same rfl (.of_eq rfl) rfl
    exact State.SlotsLawful.foldl_await _ _ admitted c.keyed
  | addPeer k r x i src hk =>
    subst hk
    exact h.of_same rfl (.of_eq rfl) rfl
  | clock | grantDone | members | dropPeers | dropUnlisted | dropPeerAt | endWindow => exact h.of_same rfl (.of_eq rfl) rfl

namespace State.SlotsLawful

variable {s : State}

theorem takeSilencing (h : s.SlotsLawful) : s.takeSilencing.SlotsLawful := by
  have cleared {t : State} (table : t.claims.table = []) (line : t.line.onLine = (s.line.cutLoose fun _ => true).onLine)
      (scheduler : t.scheduler = .reset) : t.SlotsLawful :=
    of_reset table (fun f hf => LineInterface.cutLoose_all_dead (line ▸ hf)) scheduler
  unfold State.takeSilencing
  split
  case h_1 => exact cleared rfl rfl rfl
  case h_2 => exact cleared rfl rfl rfl
  case h_3 => exact cleared rfl rfl rfl
  case h_4 => exact cleared rfl rfl rfl
  all_goals exact h

theorem countSendFault (h : s.SlotsLawful) : s.countSendFault.SlotsLawful := by
  unfold State.countSendFault
  split
  · exact h
  · split
    · exact takeSilencing (h.of_same rfl (.of_eq rfl) rfl)
    · exact h.of_same (by simp) (.of_eq (by simp)) (by simp)

/-- R141: the request that comes back was its slot's, so that the slot has its place already. -/
theorem frameReturned (h : s.SlotsLawful) {f : SentFrame} (onLine : s.line.onLine = some f) :
    (s.frameReturned f).SlotsLawful := by
  have ended : State.SlotsLawful { s with line := s.line.ownFrameEnds .fixed s.line.base } := h.of_same rfl (.of_none rfl) rfl
  have failed (r : Resource) : State.SlotsLawful
      ({ s with line := s.line.ownFrameEnds .fixed s.line.base }.modifyEntry r ClaimEntry.slotFails) := by
    refine ended.kept (f := ClaimEntry.slotFails) (fun _ => rfl) rfl (.of_eq rfl) rfl fun e _ => ?_
    cases hu : e.slot.unsent <;> cases ho : e.slot.onLine <;> simp [ClaimEntry.Requests, ClaimEntry.slotFails, hu, ho]
  unfold State.frameReturned
  dsimp only
  split
  · rename_i live
    unfold State.returnRequest
    split
    · rename_i p body
      have held := h.presenceOnLine f p onLine live body
      refine ⟨h.once, h.withdraw, ?_, h.entries, fun g p hg => (nomatch hg), fun g hg => (nomatch hg)⟩
      exact h.presence.trans (by simp [held])
    · rename_i body
      have held := h.withdrawOnLine f onLine live body
      refine ⟨h.once, ?_, h.presence, h.entries, fun g p hg => (nomatch hg), fun g hg => (nomatch hg)⟩
      exact h.withdraw.trans (by simp [held])
    · exact ended
    · exact failed _
    · exact failed _
    · exact failed _
  · exact ended

theorem startFrame (h : s.SlotsLawful) (kind : SentKind) {body : Body} (k : Slot) (presence : ∀ p, body ≠ .presence p)
    (withdraw : body ≠ .withdraw) : (s.startFrame kind body k).SlotsLawful :=
  ⟨h.once, h.withdraw, h.presence, h.entries, fun _ p hf _ hb => by cases hf; exact absurd hb (presence p),
    fun _ hf _ hb => by cases hf; exact absurd hb withdraw⟩

/-- What is chosen waits in its slot, and goes on the line from it. -/
theorem send (h : s.SlotsLawful) (keyed : s.Keyed) {c : Choice} (k : Slot) (choice : s.choice = some c) :
    (s.send c k).SlotsLawful := by
  rcases c with g | (_ | _ | r)
  · have counted : (s.alternate (min Config.alternationTop (s.scheduler.alternation + 1))).SlotsLawful :=
      h.of_parts rfl (.of_eq rfl) rfl rfl rfl
    exact counted.startFrame .grant k (fun _ hb => nomatch hb) fun hb => nomatch hb
  · have placed := (State.slotClass_of_choice choice).1
    refine ⟨h.once, ⟨fun _ hw => (nomatch hw), fun _ => placed⟩, h.presence, h.entries, fun _ _ hf _ hb => ?_, fun _ _ _ _ => rfl⟩
    cases hf
    cases hb
  · have placed := (State.slotClass_of_choice choice).1
    refine ⟨h.once, h.withdraw, ⟨fun _ hw => (nomatch hw), fun _ => placed⟩, h.entries, fun _ _ _ _ _ => rfl, fun _ hf _ hb => ?_⟩
    cases hf
    cases hb
  · have alternated : (s.alternate 0).SlotsLawful := h.of_parts rfl (.of_eq rfl) rfl rfl rfl
    have slot (stamp : Clock) (l : List Station) (e : ClaimEntry) : (e.handedOver stamp l).slot = e.slot := by
      unfold ClaimEntry.handedOver
      split <;> rfl
    have handed : ((s.alternate 0).handOverIfQueued r).SlotsLawful := by
      refine alternated.kept (ClaimEntry.handedOver_resource _ _)
        (State.handOverIfQueued_table (s := s.alternate 0) keyed r) ?_ ?_ fun e _ => by simp [ClaimEntry.Requests, slot]
      · refine .of_eq ?_
        unfold State.handOverIfQueued
        split <;> rfl
      · unfold State.handOverIfQueued
        split <;> rfl
    obtain same | ⟨e, kind, body, he, unsent, presence, withdraw, sent⟩ := (s.alternate 0).sendEntry_cases r k
    · simpa only [State.send, State.sendOwn, same] using alternated
    · simp only [State.send, State.sendOwn, sent]
      have taken : (((s.alternate 0).handOverIfQueued r).modifyEntry r ClaimEntry.slotSends).SlotsLawful := by
        refine handed.kept (f := ClaimEntry.slotSends) (fun _ => rfl) rfl (.of_eq rfl) rfl fun e' he' => ?_
        obtain rfl := Option.some.inj (he.symm.trans he')
        simp [ClaimEntry.Requests, ClaimEntry.slotSends, unsent]
      exact taken.startFrame kind k presence withdraw

end State.SlotsLawful

/-- Every move keeps the laws of the own-frame slots. -/
theorem State.Move.slots_lawful {s t : State} (m : s.Move t) (c : s.ClaimsLawful) (h : s.SlotsLawful) : t.SlotsLawful := by
  have cleared {t : State} (table : t.claims.table = []) (line : t.line.onLine = (s.line.cutLoose fun _ => true).onLine)
      (scheduler : t.scheduler = .reset) : t.SlotsLawful :=
    .of_reset table (fun f hf => LineInterface.cutLoose_all_dead (line ▸ hf)) scheduler
  cases m with
  | inner m => exact m.slots_lawful c h
  | counts a b => exact h.of_same (by simp) (.of_eq (by simp)) (by simp)
  | leftMember state =>
    have order : s.leaveMember.scheduler.order = [.withdraw] := rfl
    have dead {f : SentFrame} (hf : s.leaveMember.line.onLine = some f) (live : f.live = true) : False := by
      simp [LineInterface.cutLoose_all_dead (l := s.line) hf] at live
    refine ⟨by simp [order], iff_of_true (by simp [order]) fun hw => (nomatch hw), iff_of_false (by simp [order]) fun hp => hp rfl,
      fun r => iff_of_false (by simp [order]) fun ⟨_, he, _⟩ => (nomatch he), fun _ _ hf live => (dead hf live).elim,
      fun _ hf live => (dead hf live).elim⟩
  | leftAtOnce state => exact cleared rfl rfl rfl
  | lapsed o state => exact cleared rfl rfl rfl
  | duplicate => exact cleared rfl rfl rfl
  | sends c' k idle may choice => exact h.send c.keyed k choice
  | fails f onLine =>
    rw [State.frameFails_eq]
    exact (h.frameReturned onLine).countSendFault
  | link | timers | notices | dismissed | progress | recovered | configured | started | startedSilent | windowEnds | promoted
  | withdrawn | released => exact h.of_same rfl (.of_eq rfl) rfl

/-- Settles O57: the slots' laws with those of the claim table. -/
theorem everyStepKeepsTheClaimTableLaws : Obligations.EveryStepKeepsTheClaimTableLaws := by
  refine ⟨fun _ _ => step_keeps_claimsLawful, fun s t claims slots hs => ?_⟩
  have both := step_keeps (P := fun s => s.ClaimsLawful ∧ s.SlotsLawful)
    (fun _ _ h => ⟨h.1.of_parts rfl rfl rfl, h.2.of_same rfl (.of_eq rfl) rfl⟩)
    (fun s => ⟨s.claimsLawful_fullReset, .of_reset rfl (fun f hf => by
      have idle : s.fullReset.line.onLine = none := s.line.underReset_onLine
      simp [idle] at hf) rfl⟩)
    (fun m h => ⟨m.claims_lawful h.1, m.slots_lawful h.1 h.2⟩) ⟨claims, slots⟩ hs
  exact both.2

end Sys2Proof.Machine

/-! PROOFS. The laws of awaiting sets, waiters lists and the answer queue are kept by every move (R8, R9, R32). -/

namespace Sys2Proof.Machine

/-- The station is on the roster. -/
def State.Knows (s : State) (x : Station) : Prop := ∃ m ∈ s.roster, m.station = x

theorem State.Knows.of_roster {s t : State} (h : t.roster = s.roster) {x : Station} (hx : s.Knows x) : t.Knows x := by
  rw [State.Knows, h]
  exact hx

/-- A purge leaves the members that it does not name. -/
theorem State.Knows.purge {k : Take} {x y : Station} (h : k.state.Knows y) (ne : y ≠ x) : (k.purge x).state.Knows y := by
  obtain ⟨m, hm, rfl⟩ := h
  exact ⟨m, by rw [Take.purge_roster]; exact List.mem_filter.mpr ⟨hm, by simpa using ne⟩, rfl⟩

theorem State.foldl_await_roster (l : List Resource) (x : Station) (s : State) :
    (l.foldl (fun t r => t.await r x) s).roster = s.roster := by
  induction l generalizing s with
  | nil => rfl
  | cons r l ih => exact (ih _).trans (s.await_roster r x)

theorem State.foldl_await_answers (l : List Resource) (x : Station) (s : State) :
    (l.foldl (fun t r => t.await r x) s).answers = s.answers := by
  induction l generalizing s with
  | nil => rfl
  | cons r l ih => exact (ih _).trans (s.await_answers r x)

theorem State.enrol_roster (s : State) (h : Header) (p : Presence) :
    (s.enrol h p).roster = insertAsc (fun m => m.station.val) (Member.admitted h p) s.roster :=
  State.foldl_await_roster _ _ _

theorem State.enrol_answers (s : State) (h : Header) (p : Presence) : (s.enrol h p).answers = s.answers :=
  State.foldl_await_answers _ _ _

/-- An admission knows the new member, and every member before. -/
theorem State.Knows.enrol {s : State} {h : Header} {p : Presence} {x : Station} (hx : x = h.source ∨ s.Knows x) :
    (s.enrol h p).Knows x := by
  rw [State.Knows, State.enrol_roster]
  have new : Member.admitted h p ∈ insertAsc (fun m => m.station.val) (Member.admitted h p) s.roster :=
    self_mem_insertAsc _ _ _
  by_cases eq : x = h.source
  · exact ⟨_, new, eq.symm⟩
  · obtain ⟨m, hm, rfl⟩ := hx.resolve_left eq
    exact ⟨m, mem_insertAsc_of_mem _ _ _ _ hm fun same => eq (Fin.ext same), rfl⟩

theorem State.interested_known {s : State} {r : Resource} {x : Station} (h : x ∈ s.interested r) : s.Knows x := by
  obtain ⟨m, hm, rfl⟩ := List.mem_map.mp h
  exact ⟨m, (List.mem_filter.mp hm).1, rfl⟩

theorem State.RosterLawful.interested_ascends {s : State} (h : s.RosterLawful) (r : Resource) :
    Ascending Fin.val (s.interested r) := List.pairwise_map.mpr (h.ascends.filter _)

/-! ## The lists of one entry -/

/-- R8, R9: the entry's awaiting set and waiters list are in order and name stations that `known` names. -/
structure ClaimEntry.Listed (known : Station → Prop) (e : ClaimEntry) : Prop where
  awaitingAscends : Ascending Fin.val e.awaiting
  awaitingKnown : ∀ x ∈ e.awaiting, known x
  waitersAscend : Ascending Waiter.key e.waiters
  waitersOnce : (e.waiters.map (·.station)).Nodup
  waitersKnown : ∀ w ∈ e.waiters, known w.station

/-- Insertion of an element whose image is new keeps the images apart. -/
theorem nodup_map_insertAsc {α β : Type} {key : α → Nat} {f : α → β} {x : α} {l : List α} (h : (l.map f).Nodup)
    (new : f x ∉ l.map f) : ((insertAsc key x l).map f).Nodup := by
  induction l with
  | nil => simp [insertAsc]
  | cons y ys ih =>
    obtain ⟨first, rest⟩ := List.nodup_cons.mp h
    obtain ⟨ne, new'⟩ := not_or.mp (List.mem_cons.not.mp new)
    unfold insertAsc
    split
    · exact List.nodup_cons.mpr ⟨new, h⟩
    · split
      · exact List.nodup_cons.mpr ⟨new', rest⟩
      · refine List.nodup_cons.mpr ⟨fun hy => ?_, ih rest new'⟩
        obtain ⟨z, hz, eq⟩ := List.mem_map.mp hy
        rcases mem_insertAsc _ _ _ _ hz with rfl | hz
        · exact ne eq
        · exact first (eq ▸ List.mem_map_of_mem hz)

namespace ClaimEntry.Listed

variable {known : Station → Prop} {e : ClaimEntry}

/-- Lists that lose items stay listed. -/
theorem of_sublist (h : e.Listed known) {e' : ClaimEntry} (awaiting : e'.awaiting.Sublist e.awaiting)
    (waiters : e'.waiters.Sublist e.waiters) : e'.Listed known :=
  ⟨h.awaitingAscends.sublist awaiting, fun x hx => h.awaitingKnown x (awaiting.subset hx),
    h.waitersAscend.sublist waiters, h.waitersOnce.sublist (waiters.map _), fun w hw => h.waitersKnown w (waiters.subset hw)⟩

theorem of_same (h : e.Listed known) {e' : ClaimEntry} (awaiting : e'.awaiting = e.awaiting)
    (waiters : e'.waiters = e.waiters) : e'.Listed known :=
  h.of_sublist (awaiting ▸ .refl _) (waiters ▸ .refl _)

theorem mono (h : e.Listed known) {known' : Station → Prop} (awaiting : ∀ x ∈ e.awaiting, known x → known' x)
    (waiters : ∀ w ∈ e.waiters, known w.station → known' w.station) : e.Listed known' :=
  ⟨h.awaitingAscends, fun x hx => awaiting x hx (h.awaitingKnown x hx), h.waitersAscend, h.waitersOnce,
    fun w hw => waiters w hw (h.waitersKnown w hw)⟩

theorem empty (awaiting : e.awaiting = []) (waiters : e.waiters = []) : e.Listed known := by
  constructor <;> simp [awaiting, waiters]

theorem heldIfReady (h : e.Listed known) : e.heldIfReady.Listed known := by
  unfold ClaimEntry.heldIfReady
  split
  · exact h.of_same rfl rfl
  · exact h

theorem awaits (h : e.Listed known) {x : Station} (hx : known x) : (e.awaits x).Listed known := by
  have joined : ClaimEntry.Listed known { e with awaiting := insertStation x e.awaiting } :=
    ⟨h.awaitingAscends.insertAsc x, fun y hy => (mem_insertAsc _ _ _ _ hy).elim (· ▸ hx) (h.awaitingKnown y),
      h.waitersAscend, h.waitersOnce, h.waitersKnown⟩
  unfold ClaimEntry.awaits
  split
  · split
    · exact joined.of_same rfl rfl
    · exact joined
  · exact h

theorem awaitNext (h : e.Listed known) (due : Nat) : (e.awaitNext due).Listed known := by
  unfold ClaimEntry.awaitNext
  split
  · exact h.of_same rfl rfl
  · exact h

theorem announce (h : e.Listed known) (due : Nat) : (e.announce due).Listed known :=
  awaitNext (h.of_same (e' := { e with slot := { e.slot with onLine := none }, announced := true }) rfl rfl) due

theorem countAnswer (h : e.Listed known) (x : Station) : (e.countAnswer x).Listed known := by
  unfold ClaimEntry.countAnswer
  dsimp only
  split
  · exact h.of_sublist (List.nil_sublist _) (.refl _)
  · exact h.of_sublist List.filter_sublist (.refl _)

theorem answeredBy (h : e.Listed known) (x : Station) : (e.answeredBy x).Listed known := by
  unfold ClaimEntry.answeredBy
  split
  · exact h.countAnswer x
  · exact h

theorem dropWaiter (h : e.Listed known) (x : Station) : (e.dropWaiter x).Listed known :=
  h.of_sublist (.refl _) List.filter_sublist

theorem dropStaleWaiter (h : e.Listed known) (p : Station) (q : ClaimSeq) : (e.dropStaleWaiter p q).Listed known := by
  unfold ClaimEntry.dropStaleWaiter
  split
  · exact h.of_sublist (.refl _) List.filter_sublist
  · exact h

theorem grantsTo (h : e.Listed known) {p : Station} (hp : known p) (q : ClaimSeq) : (e.grantsTo p q).Listed known := by
  unfold ClaimEntry.grantsTo
  split
  · exact (h.dropStaleWaiter p q).awaits hp
  · exact h.dropStaleWaiter p q

/-- R37: the earlier item of the station goes before the new one comes. -/
theorem recordWaiter (h : e.Listed known) {w : Waiter} (hw : known w.station) : (e.recordWaiter w).Listed known := by
  have others := h.dropWaiter w.station
  unfold ClaimEntry.recordWaiter
  split
  · exact h
  · refine ⟨h.awaitingAscends, h.awaitingKnown, others.waitersAscend.insertAsc w, nodup_map_insertAsc others.waitersOnce ?_,
      fun v hv => (mem_insertAsc _ _ _ _ hv).elim (· ▸ hw) (others.waitersKnown v)⟩
    intro same
    obtain ⟨v, hv, eq⟩ := List.mem_map.mp same
    simpa [eq] using (List.mem_filter.mp hv).2

theorem defers (h : e.Listed known) {w : Waiter} (hw : known w.station) : (e.defers w).Listed known := by
  unfold ClaimEntry.defers
  split
  · exact h.recordWaiter hw
  · exact h

/-- R30: the purged station is in none of the entry's lists. -/
theorem purged (h : e.Listed known) (x : Station) : (e.purged x).Listed fun y => known y ∧ y ≠ x := by
  have purge : (e.purge x).Listed fun y => known y ∧ y ≠ x :=
    (h.of_sublist (e' := e.purge x) List.filter_sublist List.filter_sublist).mono
      (fun y hy hk => ⟨hk, by simpa using (List.mem_filter.mp hy).2⟩)
      fun w hw hk => ⟨hk, by simpa using (List.mem_filter.mp hw).2⟩
  rw [← ClaimEntry.purge_heldIfReady]
  split
  · exact purge.heldIfReady
  · exact purge

theorem joinedBy (h : e.Listed known) {x : Station} (hx : known x) (g : Groups) : (e.joinedBy x g).Listed known := by
  rw [ClaimEntry.joinedBy_eq]
  split
  · exact h.awaits hx
  · exact h

theorem handedOver (h : e.Listed known) (stamp : Clock) {l : List Station} (ascends : Ascending Fin.val l)
    (hl : ∀ x ∈ l, known x) : (e.handedOver stamp l).Listed known := by
  unfold ClaimEntry.handedOver
  split
  · exact ⟨ascends, hl, h.waitersAscend, h.waitersOnce, h.waitersKnown⟩
  · exact h

end ClaimEntry.Listed

/-! ## The lists of the table -/

theorem State.listsLawful_iff {s : State} : s.ListsLawful ↔ ∀ e ∈ s.claims.table, e.Listed s.Knows :=
  ⟨fun h e he => ⟨h.awaitingAscends e he, h.awaitingMembers e he, h.waitersAscend e he, h.waitersOnce e he,
    h.waitersMembers e he⟩, fun h => ⟨fun e he => (h e he).awaitingAscends, fun e he => (h e he).awaitingKnown,
    fun e he => (h e he).waitersAscend, fun e he => (h e he).waitersOnce, fun e he => (h e he).waitersKnown⟩⟩

namespace State.ListsLawful

variable {s t : State}

theorem of_empty (table : t.claims.table = []) : t.ListsLawful := State.listsLawful_iff.mpr (by simp [table])

theorem of_map (h : s.ListsLawful) (f : ClaimEntry → ClaimEntry)
    (listed : ∀ e, e.Listed s.Knows → (f e).Listed t.Knows) (table : t.claims.table = s.claims.table.map f) :
    t.ListsLawful := by
  refine State.listsLawful_iff.mpr fun e he => ?_
  rw [table] at he
  obtain ⟨x, hx, rfl⟩ := List.mem_map.mp he
  exact listed x (State.listsLawful_iff.mp h x hx)

theorem of_changeAt (h : s.ListsLawful) (r : Resource) (f : ClaimEntry → ClaimEntry)
    (listed : ∀ e, e.Listed s.Knows → (f e).Listed s.Knows) (table : t.claims.table = changeAt r f s.claims.table)
    (roster : t.roster = s.roster) : t.ListsLawful := by
  have kept {e : ClaimEntry} (he : e.Listed s.Knows) : e.Listed t.Knows :=
    he.mono (fun _ _ => .of_roster roster) fun _ _ => .of_roster roster
  refine h.of_map (fun e => if e.resource = r then f e else e) (fun e he => ?_) table
  split
  · exact kept (listed e he)
  · exact kept he

theorem of_sublist (h : s.ListsLawful) (table : t.claims.table.Sublist s.claims.table) (roster : t.roster = s.roster) :
    t.ListsLawful := State.listsLawful_iff.mpr fun e he =>
  (State.listsLawful_iff.mp h e (table.subset he)).mono (fun _ _ => .of_roster roster) fun _ _ => .of_roster roster

theorem of_parts (h : s.ListsLawful) (table : t.claims.table = s.claims.table) (roster : t.roster = s.roster) :
    t.ListsLawful := h.of_sublist (table ▸ .refl _) roster

theorem slotCompletes (h : s.ListsLawful) (r : Resource) : (s.slotCompletes r).ListsLawful :=
  h.of_changeAt r ClaimEntry.offLine (fun _ he => he.of_same rfl rfl) (s.slotCompletes_table r) (by simp)

theorem created (h : s.ListsLawful) (r : Resource) (patience : Option Nat) : (s.createClaim r patience).ListsLawful := by
  let e := ClaimEntry.created r (s.claims.seq + 1) patience s.session.tick
  have entered : State.ListsLawful { s with claims := { s.claims with
      seq := s.claims.seq + 1, table := insertAsc (fun e => e.resource.val) e s.claims.table } } :=
    State.listsLawful_iff.mpr fun x hx => by
      rcases mem_insertAsc _ _ _ _ hx with rfl | old
      · exact .empty rfl rfl
      · exact State.listsLawful_iff.mp h x old
  exact entered.of_changeAt r _ (fun _ he => he.of_same (by rfl) (by rfl)) rfl rfl

end State.ListsLawful

theorem State.Inner.lists_lawful {s t : State} (m : s.Inner t) (c : s.ClaimsLawful) (h : s.ListsLawful) : t.ListsLawful := by
  have same {f : ClaimEntry → ClaimEntry} (awaiting : ∀ e, (f e).awaiting = e.awaiting)
      (waiters : ∀ e, (f e).waiters = e.waiters) (e : ClaimEntry) (he : e.Listed s.Knows) : (f e).Listed s.Knows :=
    he.of_same (awaiting e) (waiters e)
  cases m with
  | slotCompletes r => exact h.slotCompletes r
  | resendCompletes r =>
    exact (h.slotCompletes r).of_changeAt r (ClaimEntry.resendDone s.nextResend)
      (fun e he => .awaitNext (he.of_same (by rfl) (by rfl)) _) rfl rfl
  | created r patience => exact h.created r patience
  | removed e he hq => exact h.of_sublist List.filter_sublist rfl
  | releases e reason he hs =>
    exact h.of_changeAt e.resource _ (fun _ _ => .empty (by rfl) (by rfl)) (s.enterReleasing_table _ _) rfl
  | resent r =>
    exact h.of_changeAt r _ (fun _ he => he.of_same (by rfl) (by rfl)) (State.placeResend_table c.keyed r) (by simp)
  | announced r =>
    exact h.of_changeAt r _ (fun _ he => (he.announce _).heldIfReady) (State.announced_table c.keyed r)
      ((Take.moveToHeld_base (s.markAnnounced r).begin r).roster.trans (s.markAnnounced_base r).roster)
  | freed r e reason he hs => exact h.of_sublist List.filter_sublist rfl
  | answered k r x hk =>
    subst hk
    exact h.of_changeAt r _ (fun _ he => he.answeredBy x) (Take.answered_table c.keyed r x) (k.answered_base r x).roster
  | deferred p r q t hp =>
    exact h.of_changeAt r _ (fun _ he => he.defers (w := { station := p, stamp := t, seq := q }) hp)
      (s.deferClaim_table p r q t) rfl
  | granted p r q hp state notHeld =>
    cases joins : joinAnswers s.answers { target := p, resource := r, seq := q } with
    | none => rwa [State.grantClaim_dropped joins]
    | some queue =>
      exact h.of_changeAt r _ (fun _ he => he.grantsTo hp q) (State.grantClaim_joined c.keyed joins).1
        (s.grantClaim_roster p r q)
  | freeReceived x r =>
    have table := s.answerFree_table x r
    have roster : (s.answerFree x r).roster = s.roster := by
      unfold State.answerFree
      split <;> rfl
    split at table
    · exact h.of_changeAt r _ (fun _ he => he.dropWaiter x.source) table roster
    · exact h.of_parts table roster
  | purge k x hk =>
    subst hk
    exact h.of_map _ (fun _ he => (he.purged x).mono (fun _ _ hy => hy.1.purge hy.2) fun _ _ hw => hw.1.purge hw.2)
      (Take.purge_table c.keyed x)
  | enrol x p =>
    refine h.of_map _ (fun e he => ?_) (State.enrol_table c.keyed x p)
    have known : e.Listed (s.enrol x p).Knows := he.mono (fun _ _ hy => .enrol (.inr hy)) fun _ _ hw => .enrol (.inr hw)
    exact known.joinedBy (.enrol (.inl rfl)) _
  | members f hf =>
    have known {x : Station} (hx : s.Knows x) : State.Knows { s with roster := s.roster.map f } x := by
      obtain ⟨m, hm, rfl⟩ := hx
      exact ⟨f m, List.mem_map_of_mem hm, hf m⟩
    exact State.listsLawful_iff.mpr fun e he => (State.listsLawful_iff.mp h e he).mono (fun _ _ => known) fun _ _ => known
  | addPeer k r x i src hk =>
    subst hk
    exact h.of_parts rfl rfl
  | line | clock | schedule | requestPresence | presenceDone | withdrawDone | grantDone | dropPeers | dropUnlisted
  | dropPeerAt | endWindow => exact h.of_parts rfl rfl

namespace State.ListsLawful

variable {s : State}

theorem takeSilencing (h : s.ListsLawful) : s.takeSilencing.ListsLawful := by
  unfold State.takeSilencing
  split
  case h_1 => exact of_empty rfl
  case h_2 => exact of_empty rfl
  case h_3 => exact of_empty rfl
  case h_4 => exact of_empty rfl
  all_goals exact h

theorem countSendFault (h : s.ListsLawful) : s.countSendFault.ListsLawful := by
  unfold State.countSendFault
  split
  · exact h
  · split
    · exact takeSilencing (h.of_parts rfl rfl)
    · exact h.of_parts (by simp) (by simp)

theorem frameReturned (h : s.ListsLawful) (f : SentFrame) : (s.frameReturned f).ListsLawful := by
  have failed (r : Resource) : State.ListsLawful
      ({ s with line := s.line.ownFrameEnds .fixed s.line.base }.modifyEntry r ClaimEntry.slotFails) :=
    h.of_changeAt r ClaimEntry.slotFails (fun _ he => he.of_same (by rfl) (by rfl)) rfl rfl
  unfold State.frameReturned State.returnRequest
  dsimp only
  split
  · split
    · exact h.of_parts rfl rfl
    · exact h.of_parts rfl rfl
    · exact h.of_parts rfl rfl
    · exact failed _
    · exact failed _
    · exact failed _
  · exact h.of_parts rfl rfl

/-- R8, R13: the hand-over takes the interested members, in the roster's order. -/
theorem send (h : s.ListsLawful) (keyed : s.Keyed) (members : s.RosterLawful) (c : Choice) (k : Slot) :
    (s.send c k).ListsLawful := by
  rcases c with g | (_ | _ | r)
  · exact h.of_parts rfl rfl
  · exact h.of_parts rfl rfl
  · exact h.of_parts rfl rfl
  · obtain same | ⟨_, kind, body, -, -, -, -, sent⟩ := (s.alternate 0).sendEntry_cases r k
    · simp only [State.send, State.sendOwn, same]
      exact h.of_parts rfl rfl
    · simp only [State.send, State.sendOwn, sent]
      have handed : ((s.alternate 0).handOverIfQueued r).ListsLawful :=
        h.of_changeAt r _ (fun _ he => he.handedOver _ (members.interested_ascends r) fun _ => State.interested_known)
          (State.handOverIfQueued_table (s := s.alternate 0) keyed r) ((s.alternate 0).handOverIfQueued_frame r).roster
      exact handed.of_changeAt r ClaimEntry.slotSends (fun _ he => he.of_same (by rfl) (by rfl)) rfl rfl

end State.ListsLawful

/-- Every move keeps the laws of the awaiting sets and the waiters lists. -/
theorem State.Move.lists_lawful {s t : State} (m : s.Move t) (c : s.ClaimsLawful) (members : s.RosterLawful)
    (h : s.ListsLawful) : t.ListsLawful := by
  have outside (hs : s.session.state ≠ .member) : s.claims.table = [] := c.onlyMember hs
  cases m with
  | inner m => exact m.lists_lawful c h
  | counts a b => exact h.of_parts (by simp) (by simp)
  | recovered state => exact .of_empty (outside (by simp [state]))
  | started state => exact .of_empty (outside (by simp [state]))
  | startedSilent state => exact .of_empty (outside (by simp [state]))
  | withdrawn state => exact .of_empty (outside (by simp [state]))
  | leftMember | leftAtOnce | lapsed | duplicate => exact .of_empty rfl
  | sends c' k => exact h.send c.keyed members c' k
  | fails f =>
    rw [State.frameFails_eq]
    exact (h.frameReturned f).countSendFault
  | link | timers | notices | dismissed | progress | configured | windowEnds | promoted | released => exact h.of_parts rfl rfl

/-! ## The answer queue -/

namespace State.AnswersLawful

variable {s t : State}

/-- The laws of a queue that loses items, while no entry of one of its resources becomes HELD. -/
theorem of_sublist (h : s.AnswersLawful) (answers : t.answers.Sublist s.answers)
    (members : ∀ g ∈ t.answers, s.Knows g.target → t.Knows g.target)
    (held : ∀ e ∈ t.claims.table, e.state = .held → (∃ e' ∈ s.claims.table, e'.state = .held ∧ e'.resource = e.resource)
      ∨ ∀ g ∈ t.answers, g.resource ≠ e.resource)
    (state : t.session.state = s.session.state) : t.AnswersLawful := by
  refine ⟨answers.length_le.trans h.bounded, h.distinct.sublist answers,
    fun g hg => members g hg (h.members g (answers.subset hg)), fun g hg e he hs => ?_, fun outside => ?_⟩
  · obtain ⟨e', he', hs', same⟩ | none := held e he hs
    · exact same ▸ h.noneHeld g (answers.subset hg) e' he' hs'
    · exact none g hg
  · have none := h.onlyMember (state ▸ outside)
    rw [none] at answers
    exact List.sublist_nil.mp answers

theorem of_parts (h : s.AnswersLawful) (answers : t.answers.Sublist s.answers) (table : t.claims.table.Sublist s.claims.table)
    (roster : t.roster = s.roster) (state : t.session.state = s.session.state) : t.AnswersLawful :=
  h.of_sublist answers (fun _ _ => .of_roster roster) (fun e he hs => .inl ⟨e, table.subset he, hs, rfl⟩) state

theorem of_same (h : s.AnswersLawful) (answers : t.answers = s.answers) (table : t.claims.table = s.claims.table)
    (roster : t.roster = s.roster) (state : t.session.state = s.session.state) : t.AnswersLawful :=
  h.of_parts (answers ▸ .refl _) (table ▸ .refl _) roster state

theorem of_empty (answers : t.answers = []) : t.AnswersLawful :=
  ⟨by simp [answers], by simp [answers], by simp [answers], by simp [answers], fun _ => answers⟩

/-- No entry becomes HELD, and no GRANT comes. -/
theorem of_map (h : s.AnswersLawful) (f : ClaimEntry → ClaimEntry) (table : t.claims.table = s.claims.table.map f)
    (hf : ∀ e, (f e).resource = e.resource) (held : ∀ e, (f e).state = .held → e.state = .held)
    (answers : t.answers.Sublist s.answers) (members : ∀ g ∈ t.answers, s.Knows g.target → t.Knows g.target)
    (state : t.session.state = s.session.state) : t.AnswersLawful := by
  refine h.of_sublist answers members (fun e he hs => .inl ?_) state
  rw [table] at he
  obtain ⟨x, hx, rfl⟩ := List.mem_map.mp he
  exact ⟨x, hx, held x hs, (hf x).symm⟩

theorem of_changeAt (h : s.AnswersLawful) (r : Resource) (f : ClaimEntry → ClaimEntry) (table : t.claims.table = changeAt r f s.claims.table)
    (hf : ∀ e, (f e).resource = e.resource) (held : ∀ e, (f e).state = .held → e.state = .held)
    (answers : t.answers.Sublist s.answers) (roster : t.roster = s.roster) (state : t.session.state = s.session.state) :
    t.AnswersLawful := by
  refine h.of_map (fun e => if e.resource = r then f e else e) table (fun e => ?_) (fun e => ?_) answers
    (fun _ _ => .of_roster roster) state
  · split
    · exact hf e
    · rfl
  · split
    · exact held e
    · exact id

theorem slotCompletes (h : s.AnswersLawful) (r : Resource) : (s.slotCompletes r).AnswersLawful :=
  h.of_changeAt r ClaimEntry.offLine (s.slotCompletes_table r) (fun _ => rfl) (fun _ => id) (by simp) (by simp) (by simp)

theorem created (h : s.AnswersLawful) (r : Resource) (patience : Option Nat) : (s.createClaim r patience).AnswersLawful := by
  let e := ClaimEntry.created r (s.claims.seq + 1) patience s.session.tick
  have entered : State.AnswersLawful { s with claims := { s.claims with
      seq := s.claims.seq + 1, table := insertAsc (fun e => e.resource.val) e s.claims.table } } := by
    refine h.of_sublist (.refl _) (fun _ _ => id) (fun x hx hs => .inl ?_) rfl
    rcases mem_insertAsc _ _ _ _ hx with rfl | hx
    · cases hs
    · exact ⟨x, hx, hs, rfl⟩
  exact entered.of_changeAt r _ rfl (fun _ => rfl) (fun _ => id) (.refl _) rfl rfl

/-- R45: the move to HELD withdraws the GRANTs for its resource. -/
theorem moveToHeld {k : Take} (h : k.state.AnswersLawful) (r : Resource) : (k.moveToHeld r).state.AnswersLawful := by
  by_cases ready : ∃ e, k.state.entry? r = some e ∧ e.readyToHold = true
  · obtain ⟨e, he, hr⟩ := ready
    obtain ⟨base, table, answers, -, -⟩ := Take.moveToHeld_ready he hr
    refine h.of_sublist (answers ▸ List.filter_sublist) (fun _ _ => .of_roster base.roster) (fun x hx hs => ?_)
      (by rw [base.session])
    rw [table] at hx
    obtain ⟨y, hy, rfl⟩ := List.mem_map.mp hx
    by_cases same : y.resource = r
    · refine .inr fun g hg => ?_
      rw [answers] at hg
      have other : g.resource ≠ r := by simpa using (List.mem_filter.mp hg).2
      simpa [same, ClaimEntry.held] using other
    · rw [if_neg same] at hs ⊢
      exact .inl ⟨y, hy, hs, rfl⟩
  · rwa [Take.moveToHeld_of_not fun e he => Bool.eq_false_iff.mpr fun hr => ready ⟨e, he, hr⟩]

theorem foldl_moveToHeld (l : List Resource) {k : Take} (h : k.state.AnswersLawful) :
    (l.foldl Take.moveToHeld k).state.AnswersLawful := by
  induction l generalizing k with
  | nil => exact h
  | cons r l ih => exact ih (h.moveToHeld r)

/-- R44: a purge withdraws the GRANTs that target the member. -/
theorem purge {k : Take} (h : k.state.AnswersLawful) (x : Station) : (k.purge x).state.AnswersLawful := by
  refine foldl_moveToHeld _ (h.of_map (ClaimEntry.purge x) rfl (fun _ => rfl) (fun _ => id) List.filter_sublist ?_ rfl)
  rintro g hg ⟨m, hm, same⟩
  have kept : (!(g.target == x)) = true := (List.mem_filter.mp hg).2
  exact ⟨m, List.mem_filter.mpr ⟨hm, by simpa [same] using kept⟩, same⟩

theorem answered {k : Take} (h : k.state.AnswersLawful) (r : Resource) (x : Station) :
    (k.answered r x).state.AnswersLawful := by
  unfold Take.answered
  split
  · exact h
  · split
    · have counted : (k.state.modifyEntry r fun y => { y with awaiting := y.awaiting.filter (· != x) }).AnswersLawful :=
        h.of_changeAt r _ rfl (fun _ => rfl) (fun _ => id) (.refl _) rfl rfl
      exact moveToHeld (k := ⟨_, k.granted, k.conflicts⟩) counted r
    · exact h

theorem awaitNext_state (due : Nat) (e : ClaimEntry) : (e.awaitNext due).state = e.state := by
  unfold ClaimEntry.awaitNext
  split <;> rfl

theorem announced (h : s.AnswersLawful) (r : Resource) : ((s.markAnnounced r).begin.moveToHeld r).state.AnswersLawful := by
  refine moveToHeld (k := (s.markAnnounced r).begin) ?_ r
  refine (h.slotCompletes r).of_changeAt r _ rfl (fun _ => ?_) (fun e hs => ?_) (.refl _) rfl rfl
  · exact ClaimEntry.awaitNext_resource _ _
  · rwa [awaitNext_state] at hs

theorem awaits_state (x : Station) (e : ClaimEntry) : (e.awaits x).state = e.state := by
  unfold ClaimEntry.awaits
  split <;> [(split <;> rfl); rfl]

theorem dropStaleWaiter_state (p : Station) (q : ClaimSeq) (e : ClaimEntry) : (e.dropStaleWaiter p q).state = e.state := by
  unfold ClaimEntry.dropStaleWaiter
  split <;> rfl

theorem grantsTo_state (p : Station) (q : ClaimSeq) (e : ClaimEntry) : (e.grantsTo p q).state = e.state := by
  unfold ClaimEntry.grantsTo
  split
  · rw [awaits_state, dropStaleWaiter_state]
  · rw [dropStaleWaiter_state]

theorem grantsTo_resource (p : Station) (q : ClaimSeq) (e : ClaimEntry) : (e.grantsTo p q).resource = e.resource := by
  unfold ClaimEntry.grantsTo
  split
  · rw [ClaimEntry.awaits_resource, ClaimEntry.dropStaleWaiter_resource]
  · rw [ClaimEntry.dropStaleWaiter_resource]

/-- R40: an item that joins the queue is for a member and for a resource that is not HELD. -/
theorem joined (h : s.AnswersLawful) {g : GrantItem} {queue : List GrantItem} (joins : joinAnswers s.answers g = some queue)
    (target : s.Knows g.target) (member : s.session.state = .member)
    (notHeld : ∀ e ∈ s.claims.table, e.state = .held → g.resource ≠ e.resource) :
    State.AnswersLawful { s with answers := queue } := by
  by_cases same : g ∈ s.answers
  · rw [joinAnswers_of_mem same] at joins
    exact h.of_same (Option.some.inj joins).symm rfl rfl rfl
  have after : queue = withdrawStale s.answers g ++ [g] ∧ (withdrawStale s.answers g).length < 16 := by
    by_cases stale : ∃ x ∈ s.answers, x.SameClaim g
    · rw [joinAnswers_of_stale same stale] at joins
      obtain ⟨x, hx, same⟩ := stale
      refine ⟨(Option.some.inj joins).symm, lt_of_lt_of_le ?_ h.bounded⟩
      refine List.length_filter_lt_length_iff_exists.mpr ⟨x, hx, ?_⟩
      simpa [GrantItem.SameClaim] using same
    · have fresh : ∀ x ∈ s.answers, ¬ x.SameClaim g := fun x hx hs => stale ⟨x, hx, hs⟩
      rw [joinAnswers_of_fresh same fresh, Option.ite_none_right_eq_some] at joins
      rw [withdrawStale_of_none fresh]
      exact ⟨(Option.some.inj joins.2).symm, joins.1⟩
  obtain ⟨rfl, room⟩ := after
  have either {x : GrantItem} (hx : x ∈ withdrawStale s.answers g ++ [g]) : x ∈ s.answers ∨ x = g :=
    (List.mem_append.mp hx).imp (fun old => (mem_withdrawStale.mp old).1) List.mem_singleton.mp
  refine ⟨by simpa using room, ?_, fun x hx => ?_, fun x hx e he hs => ?_, fun outside => absurd member outside⟩
  · refine List.nodup_append.mpr ⟨h.distinct.filter _, List.nodup_singleton g, fun x hx y hy eq => same ?_⟩
    rw [← List.mem_singleton.mp hy, ← eq]
    exact (mem_withdrawStale.mp hx).1
  · rcases either hx with old | rfl
    · exact h.members x old
    · exact target
  · rcases either hx with old | rfl
    · exact h.noneHeld x old e he hs
    · exact notHeld e he hs

theorem granted (h : s.AnswersLawful) (keyed : s.Keyed) {p : Station} {r : Resource} {q : ClaimSeq} (hp : s.Knows p)
    (member : s.session.state = .member) (notHeld : ∀ e, s.entry? r = some e → e.state ≠ .held) :
    (s.grantClaim p r q).AnswersLawful := by
  cases joins : joinAnswers s.answers { target := p, resource := r, seq := q } with
  | none => rwa [State.grantClaim_dropped joins]
  | some queue =>
    obtain ⟨table, answers⟩ := State.grantClaim_joined keyed joins
    have queued := h.joined joins hp member fun e he hs eq => notHeld e (keyed.entry?_eq_some.mpr ⟨he, eq.symm⟩) hs
    refine queued.of_changeAt r (ClaimEntry.grantsTo p q) table (grantsTo_resource p q) (fun e hs => ?_)
      (answers ▸ .refl _) (s.grantClaim_roster p r q) (by rw [(s.grantClaim_frame p r q).session])
    rwa [grantsTo_state] at hs

end State.AnswersLawful

theorem ClaimEntry.defers_same (e : ClaimEntry) (w : Waiter) :
    (e.defers w).resource = e.resource ∧ (e.defers w).state = e.state := by
  unfold ClaimEntry.defers ClaimEntry.recordWaiter
  split
  · split <;> exact ⟨rfl, rfl⟩
  · exact ⟨rfl, rfl⟩

theorem State.Inner.answers_lawful {s t : State} (m : s.Inner t) (c : s.ClaimsLawful) (h : s.AnswersLawful) :
    t.AnswersLawful := by
  cases m with
  | slotCompletes r => exact h.slotCompletes r
  | resendCompletes r =>
    refine (h.slotCompletes r).of_changeAt r (ClaimEntry.resendDone s.nextResend)
      rfl
      (fun _ => ClaimEntry.awaitNext_resource _ _) (fun e hs => ?_) (.refl _) rfl rfl
    rwa [ClaimEntry.resendDone, State.AnswersLawful.awaitNext_state] at hs
  | created r patience => exact h.created r patience
  | removed e he hq => exact h.of_parts (.refl _) List.filter_sublist rfl rfl
  | releases e reason he hs =>
    exact h.of_changeAt e.resource _ (s.enterReleasing_table _ _) (fun _ => rfl) (fun _ hs => (nomatch hs)) (.refl _) rfl rfl
  | resent r =>
    exact h.of_changeAt r _ (State.placeResend_table c.keyed r) (fun _ => rfl) (fun _ => id) (by simp) (by simp) (by simp)
  | announced r => exact h.announced r
  | freed r e reason he hs => exact h.of_parts (.refl _) List.filter_sublist rfl rfl
  | answered k r x hk =>
    subst hk
    exact h.answered r x
  | deferred p r q t hp =>
    exact h.of_changeAt r _ (s.deferClaim_table p r q t) (fun e => (e.defers_same _).1) (fun e hs => (e.defers_same _).2 ▸ hs)
      (.refl _) rfl rfl
  | granted p r q hp state notHeld => exact h.granted c.keyed hp state notHeld
  | freeReceived x r =>
    have table := s.answerFree_table x r
    unfold State.answerFree at table ⊢
    split at table
    · rename_i member
      rw [if_pos member]
      exact h.of_changeAt r _ table (fun _ => rfl) (fun _ => id) List.filter_sublist rfl rfl
    · rename_i other
      rwa [if_neg other]
  | grantDone g => exact h.of_parts List.erase_sublist (.refl _) rfl rfl
  | purge k x hk =>
    subst hk
    exact h.purge x
  | enrol x p new other state =>
    refine h.of_map _ (State.enrol_table c.keyed x p) (fun e => ?_) (fun e hs => ?_) (by rw [State.enrol_answers])
      (fun _ _ hy => .enrol (.inr hy)) (by rw [(State.Inner.enrol (s := s) x p new other state).frame.session])
    · rw [ClaimEntry.joinedBy_eq]
      split
      · exact e.awaits_resource _
      · rfl
    · rw [ClaimEntry.joinedBy_eq] at hs
      split at hs
      · rwa [State.AnswersLawful.awaits_state] at hs
      · exact hs
  | members f hf =>
    refine h.of_sublist (.refl _) (fun g hg hx => ?_) (fun e he hs => .inl ⟨e, he, hs, rfl⟩) rfl
    obtain ⟨m, hm, same⟩ := hx
    exact ⟨f m, List.mem_map_of_mem hm, (hf m).trans same⟩
  | addPeer k r x i src hk =>
    subst hk
    exact h.of_same rfl rfl rfl rfl
  | line | clock | schedule | requestPresence | presenceDone | withdrawDone | dropPeers | dropUnlisted | dropPeerAt
  | endWindow => exact h.of_same rfl rfl rfl rfl

namespace State.AnswersLawful

variable {s : State}

theorem takeSilencing (h : s.AnswersLawful) : s.takeSilencing.AnswersLawful := by
  unfold State.takeSilencing
  split
  case h_1 => exact of_empty rfl
  case h_2 => exact of_empty rfl
  case h_3 => exact of_empty rfl
  case h_4 => exact of_empty rfl
  all_goals exact h

theorem countSendFault (h : s.AnswersLawful) : s.countSendFault.AnswersLawful := by
  unfold State.countSendFault
  split
  · exact h
  · split
    · exact takeSilencing (h.of_same rfl rfl rfl rfl)
    · exact h.of_same (by simp) (by simp) (by simp) (by simp)

theorem frameReturned (h : s.AnswersLawful) (f : SentFrame) : (s.frameReturned f).AnswersLawful := by
  have failed (r : Resource) : State.AnswersLawful
      ({ s with line := s.line.ownFrameEnds .fixed s.line.base }.modifyEntry r ClaimEntry.slotFails) :=
    h.of_changeAt r ClaimEntry.slotFails rfl (fun _ => rfl) (fun _ => id) (.refl _) rfl rfl
  unfold State.frameReturned State.returnRequest
  dsimp only
  split
  · split
    · exact h.of_same rfl rfl rfl rfl
    · exact h.of_same rfl rfl rfl rfl
    · exact h.of_same rfl rfl rfl rfl
    · exact failed _
    · exact failed _
    · exact failed _
  · exact h.of_same rfl rfl rfl rfl

theorem send (h : s.AnswersLawful) (keyed : s.Keyed) (c : Choice) (k : Slot) : (s.send c k).AnswersLawful := by
  rcases c with g | (_ | _ | r)
  · exact h.of_same rfl rfl rfl rfl
  · exact h.of_same rfl rfl rfl rfl
  · exact h.of_same rfl rfl rfl rfl
  · obtain same | ⟨_, kind, body, -, -, -, -, sent⟩ := (s.alternate 0).sendEntry_cases r k
    · simp only [State.send, State.sendOwn, same]
      exact h.of_same rfl rfl rfl rfl
    · simp only [State.send, State.sendOwn, sent]
      have frame := (s.alternate 0).handOverIfQueued_frame r
      have handed : ((s.alternate 0).handOverIfQueued r).AnswersLawful := by
        refine h.of_changeAt r _ (State.handOverIfQueued_table (s := s.alternate 0) keyed r)
          (ClaimEntry.handedOver_resource _ _) (fun e => ?_) (frame.answers ▸ .refl _) frame.roster
          (by rw [frame.session]; rfl)
        unfold ClaimEntry.handedOver
        split
        · exact fun hs => (nomatch hs)
        · exact id
      exact handed.of_changeAt r ClaimEntry.slotSends rfl (fun _ => rfl) (fun _ => id) (.refl _) rfl rfl

end State.AnswersLawful

/-- Every move keeps the laws of the answer queue. -/
theorem State.Move.answers_lawful {s t : State} (m : s.Move t) (c : s.ClaimsLawful) (h : s.AnswersLawful) :
    t.AnswersLawful := by
  have outside (hs : s.session.state ≠ .member) : s.answers = [] := h.onlyMember hs
  cases m with
  | inner m => exact m.answers_lawful c h
  | timers c number config state reset => exact h.of_same rfl rfl rfl state
  | counts a b => exact h.of_same (by simp) (by simp) (by simp) (by simp)
  | recovered state => exact .of_empty (outside (by simp [state]))
  | started state => exact .of_empty (outside (by simp [state]))
  | startedSilent state => exact .of_empty (outside (by simp [state]))
  | windowEnds st state role => exact .of_empty (outside (by simp [state]))
  | promoted state => exact .of_empty (outside (by simp [state]))
  | withdrawn state => exact .of_empty (outside (by simp [state]))
  | leftMember | leftAtOnce | lapsed | duplicate => exact .of_empty rfl
  | sends c' k => exact h.send c.keyed c' k
  | fails f =>
    rw [State.frameFails_eq]
    exact (h.frameReturned f).countSendFault
  | link | notices | dismissed | progress | configured | released => exact h.of_same rfl rfl rfl rfl

/-- Settles O58: each law with those it leans on, kept by every move. -/
theorem everyStepKeepsTheAnswerLaws : Obligations.EveryStepKeepsTheAnswerLaws := by
  refine ⟨fun s t claims roster lists hs => ?_, fun s t claims answers hs => ?_⟩
  · have all := step_keeps (P := fun s => s.ClaimsLawful ∧ s.RosterLawful ∧ s.ListsLawful)
      (fun _ _ ⟨c, r, l⟩ => ⟨c.of_parts rfl rfl rfl, r.of_parts rfl rfl rfl, l.of_parts rfl rfl⟩)
      (fun s => ⟨s.claimsLawful_fullReset, s.rosterLawful_fullReset, .of_empty rfl⟩)
      (fun m ⟨c, r, l⟩ => ⟨m.claims_lawful c, m.roster_lawful r, m.lists_lawful c r l⟩) ⟨claims, roster, lists⟩ hs
    exact all.2.2
  · have all := step_keeps (P := fun s => s.ClaimsLawful ∧ s.AnswersLawful)
      (fun _ _ ⟨c, a⟩ => ⟨c.of_parts rfl rfl rfl, a.of_same rfl rfl rfl rfl⟩)
      (fun s => ⟨s.claimsLawful_fullReset, .of_empty rfl⟩)
      (fun m ⟨c, a⟩ => ⟨m.claims_lawful c, m.answers_lawful c a⟩) ⟨claims, answers⟩ hs
    exact all.2

end Sys2Proof.Machine

/-! PROOFS. The view's laws are kept by every move: the own station is shown as a holder exactly where the claim table shows a
hold (R96, R98, R100). -/

namespace Sys2Proof.Machine

/-! ## One view entry -/

theorem ViewEntry.recordsOwn_eq (v : ViewEntry) : v.recordsOwn =
    match v with
    | .unknown | .free => false
    | .held h => h.isOwn
    | .contested a b => a.isOwn || b.isOwn := by
  have own (h : Holder) : (some h.identity == some Identity.own) = h.isOwn := by cases h <;> rfl
  cases v with
  | unknown => rfl
  | free => rfl
  | held h => simpa [ViewEntry.recordsOwn, ViewEntry.first, ViewEntry.latest] using own h
  | contested a b => simpa [ViewEntry.recordsOwn, ViewEntry.first, ViewEntry.latest] using congrArg₂ _ (own a) (own b)

/-- R98: an update keeps whose the record is. -/
theorem Holder.same_updatedBy {a h : Holder} (update : a.same h = true) (b : Holder) :
    (a.updatedBy h).same b = a.same b ∧ b.same (a.updatedBy h) = b.same a ∧ (a.updatedBy h).isOwn = a.isOwn := by
  cases a with
  | own q =>
    cases h with
    | own q' => exact ⟨by cases b <;> rfl, by cases b <;> rfl, rfl⟩
    | peer x i src => cases update
  | peer x i src =>
    cases h with
    | own q' => cases update
    | peer y j src' =>
      have eq : x = y := by simpa [Holder.same] using update
      subst eq
      cases src' <;> exact ⟨by cases b <;> rfl, by cases b <;> rfl, rfl⟩

theorem Holder.isOwn_of_same {a h : Holder} (same : a.same h = true) : a.isOwn = h.isOwn := by
  cases a <;> cases h <;> simp [Holder.same, Holder.isOwn] at same ⊢

namespace ViewEntry

variable {v : ViewEntry}

/-- R99 to R101: what an entry with one holder makes of another. -/
theorem add_held (g h : Holder) :
    ((held g).add h).1 = if g.same h = true then held (g.updatedBy h) else contested g h := by
  by_cases same : g.same h = true <;> simp [ViewEntry.add, same]

theorem add_contested (a b h : Holder) : ((contested a b).add h).1 =
    if a.same h = true then contested (a.updatedBy h) b
    else if b.same h = true then contested a (b.updatedBy h)
    else contested (if b.isOwn then b else a) h := by
  by_cases first : a.same h = true
  · simp [ViewEntry.add, first]
  · by_cases latest : b.same h = true <;> simp [ViewEntry.add, first, latest]

/-- R99 to R101: an added holder is recorded, and the own hold is not lost to a third holder. -/
theorem recordsOwn_add (h : Holder) : (v.add h).1.recordsOwn = (h.isOwn || v.recordsOwn) := by
  rw [recordsOwn_eq v]
  cases v with
  | unknown => simp [ViewEntry.add, recordsOwn_eq]
  | free => simp [ViewEntry.add, recordsOwn_eq]
  | held g =>
    rw [add_held]
    split
    · rename_i same
      simp [recordsOwn_eq, (Holder.same_updatedBy same g).2.2, Holder.isOwn_of_same same]
    · simp [recordsOwn_eq, Bool.or_comm]
  | contested a b =>
    rw [add_contested]
    split
    · rename_i same
      simp [recordsOwn_eq, (Holder.same_updatedBy same a).2.2, Holder.isOwn_of_same same]
    · split
      · rename_i same
        simp [recordsOwn_eq, (Holder.same_updatedBy same a).2.2, Holder.isOwn_of_same same, Bool.or_comm]
      · cases own : b.isOwn <;> simp [recordsOwn_eq, own, Bool.or_comm]

theorem lawful_add (hv : v.Lawful) (h : Holder) : (v.add h).1.Lawful := by
  cases v with
  | unknown => trivial
  | free => trivial
  | held g =>
    rw [add_held]
    split
    · trivial
    · rename_i other
      exact Bool.eq_false_iff.mpr other
  | contested a b =>
    rw [add_contested]
    split
    · rename_i same
      exact (Holder.same_updatedBy same b).1.trans hv
    · rename_i first
      split
      · rename_i same
        exact (Holder.same_updatedBy same a).2.1.trans hv
      · rename_i latest
        cases own : b.isOwn
        · simpa [ViewEntry.Lawful] using first
        · simpa [ViewEntry.Lawful] using latest

theorem recordsOwn_drop {p : Holder → Bool} (hp : ∀ q, p (.own q) = false) : (v.drop p).recordsOwn = v.recordsOwn := by
  have other {h : Holder} (named : p h = true) : h.isOwn = false := by
    cases h with
    | own q => rw [hp q] at named; cases named
    | peer => rfl
  rw [recordsOwn_eq, recordsOwn_eq]
  cases v with
  | unknown => rfl
  | free => rfl
  | held h =>
    by_cases named : p h = true
    · simp [ViewEntry.drop, named, other named]
    · simp [ViewEntry.drop, named]
  | contested a b =>
    cases ha : p a <;> cases hb : p b <;> simp [ViewEntry.drop, ha, hb]
    · simp [other hb]
    · simp [other ha]
    · exact ⟨other ha, other hb⟩

/-- R106: with the own holds dropped, none is recorded. -/
theorem recordsOwn_dropOwn : (v.drop Holder.isOwn).recordsOwn = false := by
  rw [recordsOwn_eq]
  cases v with
  | unknown => rfl
  | free => rfl
  | held h => cases ha : h.isOwn <;> simp [ViewEntry.drop, ha]
  | contested a b => cases ha : a.isOwn <;> cases hb : b.isOwn <;> simp [ViewEntry.drop, ha, hb]

theorem lawful_drop (hv : v.Lawful) (p : Holder → Bool) : (v.drop p).Lawful := by
  cases v with
  | unknown => trivial
  | free => trivial
  | held h => cases ha : p h <;> simp [ViewEntry.drop, ha, ViewEntry.Lawful]
  | contested a b =>
    cases ha : p a <;> cases hb : p b <;> simp only [ViewEntry.drop, ha, hb, ViewEntry.Lawful]
    exact hv

theorem recordsOwn_endWindow : v.endWindow.recordsOwn = v.recordsOwn := by cases v <;> rfl

theorem lawful_endWindow (hv : v.Lawful) : v.endWindow.Lawful := by cases v <;> exact hv

end ViewEntry

/-! ## The view by resource -/

theorem viewAt_mem {v : List ViewEntry} (size : v.length = 256) (r : Resource) : viewAt v r ∈ v := by
  have inside : r.val < v.length := by omega
  rw [viewAt, List.getD_eq_getElem _ _ inside]
  exact List.getElem_mem inside

theorem exists_viewAt {v : List ViewEntry} (size : v.length = 256) {e : ViewEntry} (he : e ∈ v) : ∃ r, viewAt v r = e := by
  obtain ⟨n, hn, rfl⟩ := List.mem_iff_getElem.mp he
  exact ⟨⟨n, size ▸ hn⟩, List.getD_eq_getElem _ _ hn⟩

theorem viewAt_map_endWindow {v : List ViewEntry} (size : v.length = 256) (r : Resource) :
    viewAt (v.map ViewEntry.endWindow) r = (viewAt v r).endWindow := by
  have inside : r.val < v.length := by omega
  simp [viewAt, inside]

theorem dropUnlisted_length (x : Station) (held : List Resource) (n : Nat) (v : List ViewEntry) :
    (dropUnlisted x held n v).length = v.length := by
  induction v generalizing n with
  | nil => rfl
  | cons e v ih => simp [dropUnlisted, ih]

theorem dropUnlisted_getD (x : Station) (held : List Resource) (n i : Nat) (v : List ViewEntry) :
    (dropUnlisted x held n v).getD i .unknown =
      if held.any (fun r => r.val == n + i) then v.getD i .unknown else (v.getD i .unknown).drop (Holder.isPeer x) := by
  induction v generalizing n i with
  | nil => simp [dropUnlisted, ViewEntry.drop]
  | cons e v ih =>
    cases i with
    | zero => rfl
    | succ i =>
      refine (ih (n + 1) i).trans ?_
      rw [show n + 1 + i = n + (i + 1) by omega]
      rfl

/-- R104: the source's hold goes from the entries that its held list does not name. -/
theorem viewAt_dropUnlisted (x : Station) (held : List Resource) (v : List ViewEntry) (r : Resource) :
    viewAt (dropUnlisted x held 0 v) r = if r ∈ held then viewAt v r else (viewAt v r).drop (Holder.isPeer x) := by
  refine (dropUnlisted_getD x held 0 r.val v).trans ?_
  have named : held.any (fun r' => r'.val == 0 + r.val) = true ↔ r ∈ held := by
    simp [Fin.val_inj]
  simp only [named, viewAt]

/-! ## The laws -/

/-- The table shows a hold of the resource (R100). -/
def State.showsHeld (s : State) (r : Resource) : Bool := (s.entry? r).any ClaimEntry.showsHeld

theorem State.viewLawful_iff {s : State} : s.ViewLawful ↔
    s.view.length = 256 ∧ ∀ r, (viewAt s.view r).Lawful ∧ (viewAt s.view r).recordsOwn = s.showsHeld r := by
  refine ⟨fun h => ⟨h.size, fun r => ⟨h.entries _ (viewAt_mem h.size r), h.own r⟩⟩, fun ⟨size, at_⟩ => ⟨size, ?_, fun r => (at_ r).2⟩⟩
  intro e he
  obtain ⟨r, rfl⟩ := exists_viewAt size he
  exact (at_ r).1

/-- A hold shows after a change of one resource's entry. -/
theorem State.showsHeld_changeAt {s t : State} {r : Resource} {f : ClaimEntry → ClaimEntry}
    (table : t.claims.table = changeAt r f s.claims.table) (hf : ∀ e, (f e).resource = e.resource) (r' : Resource) :
    t.showsHeld r' = if r' = r then (s.entry? r).any fun e => (f e).showsHeld else s.showsHeld r' := by
  rw [State.showsHeld, State.entry?_changeAt hf table]
  split
  · rename_i eq
    subst eq
    cases s.entry? r' <;> rfl
  · rfl

theorem State.entry?_map {s t : State} {f : ClaimEntry → ClaimEntry} (table : t.claims.table = s.claims.table.map f)
    (hf : ∀ e, (f e).resource = e.resource) (r : Resource) : t.entry? r = (s.entry? r).map f := by
  rw [State.entry?, ClaimEngine.entry?, table, find?_map_of_keeps _ f fun e => by rw [hf]]
  rfl

namespace State.ViewLawful

variable {s t : State}

/-- The laws read the table and the view alone. -/
theorem of_shown (h : s.ViewLawful) (view : t.view = s.view) (shown : ∀ r, t.showsHeld r = s.showsHeld r) : t.ViewLawful := by
  obtain ⟨size, all⟩ := State.viewLawful_iff.mp h
  refine State.viewLawful_iff.mpr ⟨view ▸ size, fun r => ?_⟩
  rw [view, shown]
  exact all r

theorem of_same (h : s.ViewLawful) (table : t.claims.table = s.claims.table) (view : t.view = s.view) : t.ViewLawful :=
  h.of_shown view fun r => by rw [State.showsHeld, State.entry?_congr table]; rfl

theorem of_changeAt (h : s.ViewLawful) (r : Resource) (f : ClaimEntry → ClaimEntry)
    (table : t.claims.table = changeAt r f s.claims.table) (view : t.view = s.view) (hf : ∀ e, (f e).resource = e.resource)
    (shown : ∀ e, s.entry? r = some e → (f e).showsHeld = e.showsHeld) : t.ViewLawful := by
  refine h.of_shown view fun r' => ?_
  rw [State.showsHeld_changeAt table hf]
  split
  · rename_i eq
    subst eq
    rw [State.showsHeld]
    cases he : s.entry? r' with
    | none => rfl
    | some e => exact shown e he
  · rfl

theorem of_map (h : s.ViewLawful) (f : ClaimEntry → ClaimEntry) (table : t.claims.table = s.claims.table.map f)
    (view : t.view = s.view) (hf : ∀ e, (f e).resource = e.resource) (shown : ∀ e, (f e).showsHeld = e.showsHeld) :
    t.ViewLawful := by
  refine h.of_shown view fun r => ?_
  rw [State.showsHeld, State.entry?_map table hf, State.showsHeld]
  cases s.entry? r <;> simp [shown]

/-- A change of the view that keeps each entry lawful and its record of the own station. -/
theorem of_view (h : s.ViewLawful) (table : t.claims.table = s.claims.table) (size : t.view.length = s.view.length)
    (kept : ∀ r, ((viewAt s.view r).Lawful → (viewAt t.view r).Lawful)
      ∧ (viewAt t.view r).recordsOwn = (viewAt s.view r).recordsOwn) : t.ViewLawful := by
  obtain ⟨full, all⟩ := State.viewLawful_iff.mp h
  refine State.viewLawful_iff.mpr ⟨size.trans full, fun r => ⟨(kept r).1 (all r).1, ?_⟩⟩
  rw [(kept r).2, (all r).2, State.showsHeld, State.showsHeld, State.entry?_congr table]

/-- R143: an unknown view and no claims. -/
theorem of_clear (table : t.claims.table = []) (view : t.view = viewUnknown) : t.ViewLawful := by
  have unknown (r : Resource) : viewAt t.view r = .unknown := by
    simp [viewAt, view, viewUnknown]
  refine State.viewLawful_iff.mpr ⟨by simp [view, viewUnknown], fun r => ?_⟩
  rw [unknown]
  exact ⟨trivial, by simp [State.showsHeld, State.entry?, ClaimEngine.entry?, table, ViewEntry.recordsOwn_eq]⟩

/-! ## The operations -/

theorem dropEverywhere (h : s.ViewLawful) {p : Holder → Bool} (hp : ∀ q, p (.own q) = false) :
    State.ViewLawful { s with view := dropEverywhere p s.view } := by
  refine h.of_view rfl (dropEverywhere_length p _) fun r => ?_
  rw [viewAt_dropEverywhere]
  exact ⟨fun lawful => ViewEntry.lawful_drop lawful p, ViewEntry.recordsOwn_drop hp⟩

theorem slotCompletes (h : s.ViewLawful) (r : Resource) : (s.slotCompletes r).ViewLawful :=
  h.of_changeAt r ClaimEntry.offLine (s.slotCompletes_table r) (by simp) (fun _ => rfl) fun _ _ => rfl

/-- R100: the own hold is recorded with the move to HELD. -/
theorem moveToHeld {k : Take} (h : k.state.ViewLawful) (r : Resource) : (k.moveToHeld r).state.ViewLawful := by
  by_cases ready : ∃ e, k.state.entry? r = some e ∧ e.readyToHold = true
  · obtain ⟨e, he, hr⟩ := ready
    obtain ⟨-, table, -, -, view⟩ := Take.moveToHeld_ready he hr
    obtain ⟨size, all⟩ := State.viewLawful_iff.mp h
    refine State.viewLawful_iff.mpr ⟨by simp [view, size], fun r' => ?_⟩
    rw [State.showsHeld_changeAt (f := ClaimEntry.held) table (fun _ => rfl), view, viewAt_set _ _ _ _ size]
    split
    · rename_i eq
      exact ⟨ViewEntry.lawful_add (all r).1 _, by rw [ViewEntry.recordsOwn_add, he]; rfl⟩
    · exact all r'
  · rwa [Take.moveToHeld_of_not fun e he => Bool.eq_false_iff.mpr fun hr => ready ⟨e, he, hr⟩]

theorem foldl_moveToHeld (l : List Resource) {k : Take} (h : k.state.ViewLawful) :
    (l.foldl Take.moveToHeld k).state.ViewLawful := by
  induction l generalizing k with
  | nil => exact h
  | cons r l ih => exact ih (h.moveToHeld r)

theorem purge {k : Take} (h : k.state.ViewLawful) (x : Station) : (k.purge x).state.ViewLawful := by
  refine foldl_moveToHeld _ ?_
  have left : State.ViewLawful ({ k.state with
      roster := k.state.roster.filter fun m => m.station != x
      claims := { k.state.claims with table := k.state.claims.table.map (ClaimEntry.purge x) } }.withdrawGrants (·.target == x)) :=
    h.of_map (ClaimEntry.purge x) rfl rfl (fun _ => rfl) fun _ => rfl
  exact left.dropEverywhere fun _ => rfl

theorem answered {k : Take} (h : k.state.ViewLawful) (r : Resource) (x : Station) : (k.answered r x).state.ViewLawful := by
  unfold Take.answered
  split
  · exact h
  · split
    · have counted : (k.state.modifyEntry r fun y => { y with awaiting := y.awaiting.filter (· != x) }).ViewLawful :=
        h.of_changeAt r _ rfl rfl (fun _ => rfl) fun _ _ => rfl
      exact moveToHeld (k := ⟨_, k.granted, k.conflicts⟩) counted r
    · exact h

theorem awaitNext_showsHeld (due : Nat) (e : ClaimEntry) : (e.awaitNext due).showsHeld = e.showsHeld := by
  unfold ClaimEntry.awaitNext
  split <;> rfl

theorem awaits_showsHeld (x : Station) (e : ClaimEntry) : (e.awaits x).showsHeld = e.showsHeld := by
  unfold ClaimEntry.awaits
  split <;> [(split <;> rfl); rfl]

theorem grantsTo_showsHeld (p : Station) (q : ClaimSeq) (e : ClaimEntry) : (e.grantsTo p q).showsHeld = e.showsHeld := by
  have dropped : (e.dropStaleWaiter p q).showsHeld = e.showsHeld := by
    unfold ClaimEntry.dropStaleWaiter
    split <;> rfl
  unfold ClaimEntry.grantsTo
  split
  · rw [awaits_showsHeld, dropped]
  · exact dropped

theorem announced (h : s.ViewLawful) (r : Resource) : ((s.markAnnounced r).begin.moveToHeld r).state.ViewLawful := by
  refine moveToHeld (k := (s.markAnnounced r).begin) ?_ r
  exact (h.slotCompletes r).of_changeAt r _ rfl rfl (fun _ => ClaimEntry.awaitNext_resource _ _)
    fun _ _ => awaitNext_showsHeld _ _

theorem removeEntry (h : s.ViewLawful) {r : Resource} {e : ClaimEntry} (he : s.entry? r = some e)
    (hidden : e.showsHeld = false) : (s.removeEntry r).ViewLawful := by
  refine h.of_shown rfl fun r' => ?_
  rw [State.showsHeld, State.showsHeld, State.entry?_removeEntry]
  split
  · rename_i eq
    subst eq
    simp [he, hidden]
  · rfl

/-- R106: the own hold goes with its entry. -/
theorem removeHeld (h : s.ViewLawful) (r : Resource) :
    State.ViewLawful { s.removeEntry r with view := dropAt r Holder.isOwn s.view } := by
  obtain ⟨size, all⟩ := State.viewLawful_iff.mp h
  refine State.viewLawful_iff.mpr ⟨by simp [dropAt, size], fun r' => ?_⟩
  have left : State.showsHeld { s.removeEntry r with view := dropAt r Holder.isOwn s.view } r' =
      if r' = r then false else s.showsHeld r' := by
    show Option.any _ ((s.removeEntry r).entry? r') = _
    rw [State.entry?_removeEntry]
    split <;> rfl
  rw [left]
  dsimp only [dropAt]
  rw [viewAt_set _ _ _ _ size]
  split
  · rename_i eq
    exact ⟨ViewEntry.lawful_drop (all r).1 _, ViewEntry.recordsOwn_dropOwn⟩
  · exact all r'

theorem created (h : s.ViewLawful) {r : Resource} {patience : Option Nat} (fresh : s.entry? r = none) :
    (s.createClaim r patience).ViewLawful := by
  refine h.of_shown rfl fun r' => ?_
  rw [State.showsHeld, State.showsHeld, State.entry?_createClaim patience fresh]
  split
  · rename_i eq
    simp [eq, fresh, ClaimEntry.showsHeld, ClaimEntry.created]
  · rfl

end State.ViewLawful

theorem State.grantClaim_view (s : State) (p : Station) (r : Resource) (q : ClaimSeq) :
    (s.grantClaim p r q).view = s.view := by
  unfold State.grantClaim
  split
  · rfl
  · dsimp only
    split
    · rw [State.await_view]
      rfl
    · rfl

theorem State.enrol_view (s : State) (h : Header) (p : Presence) : (s.enrol h p).view = s.view := by
  have awaits (l : List Resource) (t : State) : (l.foldl (fun t r => t.await r h.source) t).view = t.view := by
    induction l generalizing t with
    | nil => rfl
    | cons r l ih => exact (ih _).trans (t.await_view r h.source)
  exact awaits _ _

theorem State.Inner.view_lawful {s t : State} (m : s.Inner t) (c : s.ClaimsLawful) (h : s.ViewLawful) : t.ViewLawful := by
  cases m with
  | slotCompletes r => exact h.slotCompletes r
  | resendCompletes r =>
    exact (h.slotCompletes r).of_changeAt r (ClaimEntry.resendDone s.nextResend) rfl rfl
      (fun _ => ClaimEntry.awaitNext_resource _ _) fun _ _ => State.ViewLawful.awaitNext_showsHeld _ _
  | created r patience fresh => exact h.created fresh
  | removed e he hq => exact h.removeEntry (c.keyed.entry?_of_mem he) (by simp [ClaimEntry.showsHeld, hq])
  | releases e reason he hs =>
    refine h.of_changeAt e.resource _ (s.enterReleasing_table _ _) rfl (fun _ => rfl) fun x hx => ?_
    obtain rfl := Option.some.inj (hx.symm.trans (c.keyed.entry?_of_mem he))
    show x.wasHeld = x.showsHeld
    have lawful := c.entries x he
    rcases hs with wanted | ⟨held, -⟩
    · have never : x.wasHeld = false := Bool.eq_false_iff.mpr fun was => by
        rcases lawful.wasHeldStates was with hs | hs <;> simp [wanted] at hs
      simp [ClaimEntry.showsHeld, wanted, never]
    · simp [ClaimEntry.showsHeld, held, (lawful.heldAnswered held).2.2]
  | resent r => exact h.of_changeAt r _ (State.placeResend_table c.keyed r) (by simp) (fun _ => rfl) fun _ _ => rfl
  | announced r => exact h.announced r
  | freed r e reason he hs =>
    split
    · exact h.removeHeld r
    · rename_i never
      exact (h.removeEntry he (by simpa [ClaimEntry.showsHeld, hs] using never)).of_same rfl rfl
  | answered k r x hk =>
    subst hk
    exact h.answered r x
  | deferred p r q t hp =>
    refine h.of_changeAt r _ (s.deferClaim_table p r q t) rfl (fun e => (e.defers_same _).1) fun e _ => ?_
    unfold ClaimEntry.defers ClaimEntry.recordWaiter
    split <;> [(split <;> rfl); rfl]
  | granted p r q hp state notHeld =>
    cases joins : joinAnswers s.answers { target := p, resource := r, seq := q } with
    | none => rwa [State.grantClaim_dropped joins]
    | some queue =>
      exact h.of_changeAt r _ (State.grantClaim_joined c.keyed joins).1 (s.grantClaim_view p r q)
        (State.AnswersLawful.grantsTo_resource p q) fun e _ => State.ViewLawful.grantsTo_showsHeld p q e
  | freeReceived x r =>
    have table := s.answerFree_table x r
    have view : (s.answerFree x r).view = s.view := by
      unfold State.answerFree
      split <;> rfl
    split at table
    · exact h.of_changeAt r _ table view (fun _ => rfl) fun _ _ => rfl
    · exact h.of_same table view
  | purge k x hk =>
    subst hk
    exact h.purge x
  | enrol x p =>
    refine h.of_map _ (State.enrol_table c.keyed x p) (s.enrol_view x p) (fun e => ?_) fun e => ?_
    all_goals rw [ClaimEntry.joinedBy_eq]
    · split
      · exact e.awaits_resource _
      · rfl
    · split
      · exact State.ViewLawful.awaits_showsHeld _ _
      · rfl
  | addPeer k r x i src hk =>
    subst hk
    obtain ⟨size, -⟩ := State.viewLawful_iff.mp h
    refine h.of_view rfl (by simp [Take.addHolder]) fun r' => ?_
    simp only [Take.addHolder]
    rw [viewAt_set _ _ _ _ size]
    split
    · rename_i eq
      subst eq
      exact ⟨fun lawful => ViewEntry.lawful_add lawful _, ViewEntry.recordsOwn_add _⟩
    · exact ⟨id, rfl⟩
  | dropPeers p hp => exact h.dropEverywhere hp
  | dropUnlisted x held =>
    refine h.of_view rfl (dropUnlisted_length _ _ _ _) fun r => ?_
    rw [viewAt_dropUnlisted]
    split
    · exact ⟨id, rfl⟩
    · exact ⟨fun lawful => ViewEntry.lawful_drop lawful _, ViewEntry.recordsOwn_drop fun _ => rfl⟩
  | dropPeerAt r x =>
    obtain ⟨size, -⟩ := State.viewLawful_iff.mp h
    refine h.of_view rfl (by simp [dropAt]) fun r' => ?_
    dsimp only [dropAt]
    rw [viewAt_set _ _ _ _ size]
    split
    · rename_i eq
      subst eq
      exact ⟨fun lawful => ViewEntry.lawful_drop lawful _, ViewEntry.recordsOwn_drop fun _ => rfl⟩
    · exact ⟨id, rfl⟩
  | endWindow =>
    obtain ⟨size, -⟩ := State.viewLawful_iff.mp h
    refine h.of_view rfl (by simp) fun r => ?_
    rw [viewAt_map_endWindow size]
    exact ⟨ViewEntry.lawful_endWindow, ViewEntry.recordsOwn_endWindow⟩
  | line | clock | schedule | requestPresence | presenceDone | withdrawDone | grantDone | members => exact h.of_same rfl rfl

namespace State.ViewLawful

variable {s : State}

theorem takeSilencing (h : s.ViewLawful) : s.takeSilencing.ViewLawful := by
  unfold State.takeSilencing
  split
  case h_1 => exact of_clear rfl rfl
  case h_2 => exact of_clear rfl rfl
  case h_3 => exact of_clear rfl rfl
  case h_4 => exact of_clear rfl rfl
  all_goals exact h

theorem countSendFault (h : s.ViewLawful) : s.countSendFault.ViewLawful := by
  unfold State.countSendFault
  split
  · exact h
  · split
    · exact takeSilencing (h.of_same rfl rfl)
    · exact h.of_same (by simp) (by simp)

theorem frameReturned (h : s.ViewLawful) (f : SentFrame) : (s.frameReturned f).ViewLawful := by
  have failed (r : Resource) : State.ViewLawful
      ({ s with line := s.line.ownFrameEnds .fixed s.line.base }.modifyEntry r ClaimEntry.slotFails) :=
    h.of_changeAt r ClaimEntry.slotFails rfl rfl (fun _ => rfl) fun _ _ => rfl
  unfold State.frameReturned State.returnRequest
  dsimp only
  split
  · split
    · exact h.of_same rfl rfl
    · exact h.of_same rfl rfl
    · exact h.of_same rfl rfl
    · exact failed _
    · exact failed _
    · exact failed _
  · exact h.of_same rfl rfl

theorem send (h : s.ViewLawful) (keyed : s.Keyed) (c : Choice) (k : Slot) : (s.send c k).ViewLawful := by
  rcases c with g | (_ | _ | r)
  · exact h.of_same rfl rfl
  · exact h.of_same rfl rfl
  · exact h.of_same rfl rfl
  · obtain same | ⟨_, kind, body, -, -, -, -, sent⟩ := (s.alternate 0).sendEntry_cases r k
    · simp only [State.send, State.sendOwn, same]
      exact h.of_same rfl rfl
    · simp only [State.send, State.sendOwn, sent]
      have handed : ((s.alternate 0).handOverIfQueued r).ViewLawful := by
        refine h.of_changeAt r _ (State.handOverIfQueued_table (s := s.alternate 0) keyed r)
          ((s.alternate 0).handOverIfQueued_frame r).view (ClaimEntry.handedOver_resource _ _) fun e _ => ?_
        unfold ClaimEntry.handedOver
        split
        · rename_i due
          simp only [Bool.and_eq_true, beq_iff_eq] at due
          simp [ClaimEntry.showsHeld, due.1]
        · rfl
      exact handed.of_changeAt r ClaimEntry.slotSends rfl rfl (fun _ => rfl) fun _ _ => rfl

end State.ViewLawful

/-- Every move keeps the laws of the view. -/
theorem State.Move.view_lawful {s t : State} (m : s.Move t) (c : s.ClaimsLawful) (h : s.ViewLawful) : t.ViewLawful := by
  cases m with
  | inner m => exact m.view_lawful c h
  | counts a b => exact h.of_same (by simp) (by simp)
  | withdrawn state => exact .of_clear (c.onlyMember (by simp [state])) rfl
  | leftMember | leftAtOnce | lapsed | duplicate => exact .of_clear rfl rfl
  | sends c' k => exact h.send c.keyed c' k
  | fails f =>
    rw [State.frameFails_eq]
    exact (h.frameReturned f).countSendFault
  | link | timers | notices | dismissed | progress | configured | recovered | started | startedSilent | windowEnds | promoted
  | released => exact h.of_same rfl rfl

/-- Settles O59: the view's laws with those of the claim table. -/
theorem everyStepKeepsTheViewLaws : Obligations.EveryStepKeepsTheViewLaws := by
  intro s t claims view hs
  have both := step_keeps (P := fun s => s.ClaimsLawful ∧ s.ViewLawful)
    (fun _ _ ⟨c, v⟩ => ⟨c.of_parts rfl rfl rfl, v.of_same rfl rfl⟩)
    (fun s => ⟨s.claimsLawful_fullReset, .of_clear rfl rfl⟩)
    (fun m ⟨c, v⟩ => ⟨m.claims_lawful c, m.view_lawful c v⟩) ⟨claims, view⟩ hs
  exact both.2

end Sys2Proof.Machine

/-! PROOFS. The step, the state after reset, full reset with its release, and the tick (R76, R78; log 2, log 3). -/

namespace Sys2Proof.Machine

/-! ## The step and the reset state -/

/-- Settles O1. -/
theorem stepRunsFrontCommandOrIdles : Obligations.StepRunsFrontCommandOrIdles :=
  ⟨fun _ _ _ front => by rw [step, front], fun _ empty => by rw [step, empty]⟩

/-- Settles O3: each law at empty collections. -/
theorem resetStateIsLawful : Obligations.ResetStateIsLawful := by
  refine ⟨NoticeQueue.lawful_reset, StandingMonitor.lawful_reset, ?silence, ?roster, .of_empty rfl fun hs => (nomatch hs),
    .of_reset rfl (fun _ hf => (nomatch hf)) rfl, .of_empty rfl, .of_empty rfl, .of_clear rfl rfl⟩
  case silence =>
    exact ⟨fun _ => ⟨rfl, rfl⟩, fun hs => (nomatch hs), fun hs => (nomatch hs), fun hs => (nomatch hs), fun hs => (nomatch hs),
      fun hs => (nomatch hs), fun _ => ⟨rfl, rfl⟩⟩
  case roster => exact .of_empty rfl rfl

theorem LineInterface.underReset_round (l : LineInterface) : l.underReset.roundType = .fixed ∧ l.underReset.base = 0 := by
  unfold LineInterface.underReset
  split <;> exact ⟨rfl, rfl⟩

/-- Settles O4. -/
theorem fullResetAndItsRelease : Obligations.FullResetAndItsRelease := by
  refine ⟨fun s => ⟨s.fullReset, exec_fullReset s, rfl, rfl, rfl, rfl, s.line.underReset_round.1, s.line.underReset_round.2,
    s.line.underReset_onLine, rfl, rfl, rfl, rfl, rfl, rfl, rfl, rfl, rfl, rfl, rfl, rfl⟩, fun x s asserted => ?_⟩
  simp only [exec, execResetRelease, asserted, if_true]

/-! ## Decisions that read no state -/

/-- Settles O23, by the state of the own entry. -/
theorem answerDecisionFollowsTheTable : Obligations.AnswerDecisionFollowsTheTable := by
  intro own p t
  refine ⟨rfl, fun e => ⟨fun queued => ?_, fun c releasing => ?_, fun held => ?_, fun st wanted stamp => ?_⟩⟩
  · simp only [answerDecision, queued]
  · simp only [answerDecision, releasing]
  · simp only [answerDecision, held]
  · have decision : answerDecision own (some e) t p = if outranks t p st own then .grant else .defer := by
      simp only [answerDecision, wanted, stamp]
    have priority : outranks t p st own = true ↔ t < st ∨ t = st ∧ p < own := by simp [outranks]
    rw [decision]
    exact ⟨fun wins => if_pos (priority.mpr wins), fun loses => if_neg (priority.not.mpr loses)⟩

/-- Settles O35: a slot number is the own number shifted by one amount for the whole round. -/
theorem ownSlotNumber : Obligations.OwnSlotNumber := by
  intro t b x y
  refine ⟨?_, rfl, ?_, fun same => ?_⟩
  · simp only [ownSlotOf, Fin.sub_def, Fin.val_one]
    omega
  · simp only [ownSlotOf, sub_self]
    rfl
  · cases t with
    | fixed => exact same
    | rotating => exact sub_left_injective (sub_left_injective same)

/-! ## The expiries of the list of R78 -/

/-- Commands that each leave what `f` gives leave what running `f` again and again gives. -/
theorem State.runAll_replicate {c : Instr} {f : State → State} (h : ∀ s, exec c s = .next (f s)) (n : Nat) (s : State) :
    s.runAll (List.replicate n c) = f^[n] s := by
  induction n generalizing s with
  | zero => rfl
  | succ n ih =>
    rw [List.replicate_succ, State.runAll, List.foldl_cons, h]
    exact ih (f s)

theorem State.runAll_append (s : State) (cs ds : List Instr) : s.runAll (cs ++ ds) = (s.runAll cs).runAll ds :=
  List.foldl_append

/-- Log 3: settling takes the seven expiry commands in the list's order. -/
theorem State.settle_eq_runAll (s : State) : s.settle = s.forgetMet.runAll expiriesInOrder := by
  have first (t : State) : t.runAll [.joinWindowEnd, .ownPresenceLapse] = t.joinWindowEnd.ownPresenceLapse := rfl
  have last (t : State) : t.runAll [.recoveryQuietSpan, .presenceDue] = t.recoveryStep.presenceStep := rfl
  have losses := State.runAll_replicate (c := .loss) (f := State.lossStep) fun _ => rfl
  have expiries := State.runAll_replicate (c := .patienceExpiry) (f := State.patienceStep) fun _ => rfl
  have resends := State.runAll_replicate (c := .resendDue) (f := State.resendStep) fun _ => rfl
  simp only [expiriesInOrder, State.runAll_append, first, losses, expiries, resends, last, State.settle,
    Config.claimTableSize]

namespace State.NothingDue

variable {s : State}

theorem joinWindowEnd (h : s.NothingDue) : s.joinWindowEnd = s := if_neg fun ⟨_, ended⟩ => h.window ended

theorem ownPresenceLapse (h : s.NothingDue) : s.ownPresenceLapse = s := by
  refine if_neg fun reached => ?_
  simp only [State.ownPresenceReached, Bool.and_eq_true, Option.any_eq_true_iff_get, decide_eq_true_eq] at reached
  obtain ⟨-, runs, ended⟩ := reached
  exact absurd (h.own _ (Option.some_get runs).symm) (Nat.not_lt.mpr ended)

theorem lossStep (h : s.NothingDue) (noneMet : ∀ m ∈ s.roster, m.lossMet = none) : s.lossStep = s :=
  State.lossStep_of_none fun m hm => ⟨h.losses m hm, noneMet m hm⟩

theorem patienceStep (h : s.NothingDue) : s.patienceStep = s := by
  have noneDue : s.claims.table.find? (ClaimEntry.expires s.session.tick) = none := by
    refine List.find?_eq_none.mpr fun e he => ?_
    cases hp : e.patience with
    | none => simp [ClaimEntry.expires, ClaimEntry.patienceReached, hp]
    | some d => simp [ClaimEntry.expires, ClaimEntry.patienceReached, hp, h.patience e he d hp]
  simp only [State.patienceStep, noneDue]

theorem resendStep (h : s.NothingDue) : s.resendStep = s := by
  have noneDue : s.claims.table.find? (ClaimEntry.resends s.session.tick) = none := by
    refine List.find?_eq_none.mpr fun e he => ?_
    cases hd : e.resendDue with
    | none => simp [ClaimEntry.resends, ClaimEntry.resendReached, hd]
    | some d =>
      obtain ⟨k, rfl, later⟩ := h.resends e he d hd
      simp [ClaimEntry.resends, ClaimEntry.resendReached, hd, later]
  simp only [State.resendStep, noneDue]

theorem recoveryStep (h : s.NothingDue) : s.recoveryStep = s := by
  refine if_neg fun reached => ?_
  simp only [State.quietReached, Bool.and_eq_true, beq_iff_eq, decide_eq_true_eq] at reached
  exact absurd (h.quiet reached.1) (Nat.not_lt.mpr reached.2)

theorem presenceStep (h : s.NothingDue) : s.presenceStep = s := if_neg h.presence

/-- Forgetting the HOLDs that met a loss makes nothing due. -/
theorem forgetMet (h : s.NothingDue) : s.forgetMet.NothingDue := by
  refine ⟨h.window, h.own, fun m hm => ?_, h.patience, h.resends, h.quiet, h.presence⟩
  obtain ⟨m', hm', rfl⟩ := List.mem_map.mp hm
  exact h.losses m' hm'

/-- With nothing due, settling forgets the HOLDs that met a loss and does nothing else. -/
theorem settle (h : s.NothingDue) : s.settle = s.forgetMet := by
  have noneMet : ∀ m ∈ s.forgetMet.roster, m.lossMet = none := fun m hm => by
    obtain ⟨m', -, rfl⟩ := List.mem_map.mp hm
    rfl
  have still := h.forgetMet
  simp only [State.settle, still.joinWindowEnd, still.ownPresenceLapse, Function.iterate_fixed (still.lossStep noneMet),
    Function.iterate_fixed still.patienceStep, Function.iterate_fixed still.resendStep, still.recoveryStep,
    still.presenceStep]

end State.NothingDue

/-! ## No HOLD that met a loss is noted once a tick has settled -/

/-- No HOLD that met a loss is noted. -/
def State.NoneMet (s : State) : Prop := ∀ m ∈ s.roster, m.lossMet = none

namespace State.NoneMet

variable {s t : State}

theorem of_subset (h : s.NoneMet) (roster : t.roster ⊆ s.roster) : t.NoneMet := fun m hm => h m (roster hm)

theorem of_roster (h : s.NoneMet) (roster : t.roster = s.roster) : t.NoneMet := h.of_subset (roster ▸ List.Subset.refl _)

theorem forgetMet (s : State) : s.forgetMet.NoneMet := fun m hm => by
  obtain ⟨m', -, rfl⟩ := List.mem_map.mp hm
  rfl

theorem iterate {f : State → State} (hf : ∀ s : State, s.NoneMet → (f s).NoneMet) (n : Nat) (h : s.NoneMet) :
    (f^[n] s).NoneMet := by
  induction n generalizing s with
  | zero => exact h
  | succ n ih => exact ih (hf s h)

theorem lossStep (h : s.NoneMet) : s.lossStep.NoneMet := by
  unfold State.lossStep
  split
  · refine h.of_subset fun m hm => ?_
    have left : m ∈ (s.begin.purge _).state.roster := hm
    rw [Take.purge_roster] at left
    exact (List.mem_filter.mp left).1
  · rename_i x r _ met
    have noneMet : s.metLoss? = none := List.findSome?_eq_none_iff.mpr fun x hx => by simp [h x hx]
    simp [noneMet] at met
  · exact h

theorem patienceStep (h : s.NoneMet) : s.patienceStep.NoneMet := by
  unfold State.patienceStep State.expireEntry
  split
  · exact h
  · split <;> exact h.of_roster rfl

theorem resendStep (h : s.NoneMet) : s.resendStep.NoneMet := by
  unfold State.resendStep
  split
  · exact h
  · exact h.of_roster (by simp)

theorem recoveryStep (h : s.NoneMet) : s.recoveryStep.NoneMet := by
  unfold State.recoveryStep
  split
  · exact h.of_roster rfl
  · exact h

theorem presenceStep (h : s.NoneMet) : s.presenceStep.NoneMet := by
  unfold State.presenceStep
  split
  · exact h.of_roster rfl
  · exact h

theorem settle (s : State) : s.settle.NoneMet := by
  have window : s.forgetMet.joinWindowEnd.NoneMet := by
    unfold State.joinWindowEnd
    split
    · split <;> exact (forgetMet s).of_roster rfl
    · exact forgetMet s
  have lapse : s.forgetMet.joinWindowEnd.ownPresenceLapse.NoneMet := by
    rw [State.ownPresenceLapse]
    split
    · exact fun m hm => (nomatch hm)
    · exact window
  have expiries := (lapse.iterate (fun _ => lossStep) 31).iterate (fun _ => patienceStep) Config.claimTableSize
  have resends := expiries.iterate (fun _ => resendStep) Config.claimTableSize
  exact resends.recoveryStep.presenceStep

end State.NoneMet

theorem State.NoneMet.forgetMet_eq {s : State} (h : s.NoneMet) : s.forgetMet = s := State.forgetMet_of_none h

/-! ## The tick -/

theorem exec_tick_released {s : State} (released : s.session.resetAsserted = false) : exec .tick s = .next s.settle.advance := by
  simp only [exec, execTick, released, Bool.false_eq_true, if_false]

/-- One millisecond, where no bound of a timer has been reached. -/
theorem State.NothingDue.advance {s : State} (due : s.NothingDue) : s.forgetMet.advance = { s with
    session := { s.session with
      tick := s.session.tick + 1
      joinWindow := s.session.joinWindow.map (· - 1)
      ownPresence := s.session.ownPresence.map (· + 1) }
    roster := s.roster.map fun m =>
      if m.silence < s.config.lossMs then { m with silence := m.silence + 1, lossMet := none }
      else { m with lossDue := true, lossMet := none }
    standing :=
      if s.session.state = .silent ∧ s.line.quietTick = true then
        { s.standing with recoveryQuiet := s.standing.recoveryQuiet + 1 }
      else s.standing
    scheduler := { s.scheduler with presenceDue := s.scheduler.presenceDue.map (· - 1) }
    line := { s.line with carrierInTick := s.line.busy } } := by
  have own : s.session.ownPresence.map (fun n => min s.config.lapseMs (n + 1)) = s.session.ownPresence.map (· + 1) := by
    cases timer : s.session.ownPresence with
    | none => rfl
    | some n => exact congrArg some (Nat.min_eq_right (due.own n timer))
  have roster : s.forgetMet.roster.map (Member.silent s.config.lossMs) = s.roster.map fun m =>
      if m.silence < s.config.lossMs then { m with silence := m.silence + 1, lossMet := none }
      else { m with lossDue := true, lossMet := none } := List.map_map ..
  have standing : s.standing.advance (s.session.state == .silent && s.line.quietTick) s.config.recoveryMs =
      if s.session.state = .silent ∧ s.line.quietTick = true then
        { s.standing with recoveryQuiet := s.standing.recoveryQuiet + 1 }
      else s.standing := by
    simp only [StandingMonitor.advance, Bool.and_eq_true, beq_iff_eq]
    split
    · rename_i quiet
      rw [Nat.min_eq_right (due.quiet quiet.1)]
    · rfl
  simp only [State.advance, SessionController.advance, State.forgetMet_session, State.forgetMet_config, own, roster,
    State.forgetMet_standing, State.forgetMet_line, standing, State.forgetMet_scheduler]
  rfl

/-- Settles O5: with nothing due a tick settles nothing; and the state that is settled has nothing met left to forget. -/
theorem tickAdvancesEveryTimer : Obligations.TickAdvancesEveryTimer := by
  refine ⟨fun s released due => ?_, fun s => ⟨fun asserted => ?_, fun released due still => ?_, s.settle_eq_runAll⟩⟩
  · rw [exec_tick_released released, due.settle, due.advance]
  · simp only [exec, execTick, asserted, if_true]
  · rw [exec_tick_released released, exec_tick_released still, due.settle, (State.NoneMet.settle s).forgetMet_eq]

end Sys2Proof.Machine

/-! PROOFS. The host commands that act on the session and on the claim table (R11, R12, R23 to R25, R75, R77, R86). -/

namespace Sys2Proof.Machine

/-! ## Arguments -/

theorem resourceArg_of_lt {x : BitVec 16} {r : Resource} (h : x.toNat = r.val) : resourceArg x = some r := by
  have small : x.toNat < 256 := h ▸ r.isLt
  rw [resourceArg, dif_pos small]
  exact congrArg some (Fin.ext h)

theorem resourceArg_of_le {x : BitVec 16} (h : 256 ≤ x.toNat) : resourceArg x = none := dif_neg (Nat.not_lt.mpr h)

theorem stationArg_of_lt {b : Byte} {x : Station} (h : b.toNat = x.val) : stationArg b = some x := by
  have small : b.toNat < 32 := h ▸ x.isLt
  rw [stationArg, dif_pos small]
  exact congrArg some (Fin.ext h)

theorem stationArg_of_le {b : Byte} (h : 32 ≤ b.toNat) : stationArg b = none := dif_neg (Nat.not_lt.mpr h)

theorem roleArg_eq_some {b : Byte} {role : Role} : roleArg b = some role ↔ b = role.code := by
  constructor
  · intro h
    unfold roleArg at h
    split_ifs at h with h0 h1 <;> cases h
    · exact h0
    · exact h1
  · rintro rfl
    cases role <;> rfl

theorem rateArg_eq_some {b : Byte} {rate : BitRate} : rateArg b = some rate ↔ b = rate.code := by
  constructor
  · intro h
    unfold rateArg at h
    split_ifs at h with h0 h1 h2 h3 <;> cases h
    · exact h0
    · exact h1
    · exact h2
    · exact h3
  · rintro rfl
    cases rate <;> rfl

/-- R74: the values are in their ranges. -/
def configureInRange (a : ConfigureArgs) (role : Role) : Prop :=
  1 ≤ a.period.toNat ∧ 3 ≤ a.lossLimit.toNat ∧ a.lossLimit.toNat ≤ 15 ∧ 2 ≤ a.reply.toNat
    ∧ (role = .contender → a.interest ≠ 0)

/-- The record of the values. -/
def configureRecord (a : ConfigureArgs) (role : Role) (rate : BitRate) : ConfigRecord :=
  { role := role, rate := rate, period := a.period.toNat, lossLimit := a.lossLimit.toNat, reply := a.reply.toNat,
    interest := a.interest, watch := a.watch }

theorem configureArg_eq_record {a : ConfigureArgs} {c : ConfigRecord} : configureArg a = some c ↔
    ∃ (role : Role) (rate : BitRate), a.role = role.code ∧ a.rate = rate.code ∧ configureInRange a role ∧ c = configureRecord a role rate := by
  have range (role : Role) : (1 ≤ a.period.toNat && (3 ≤ a.lossLimit.toNat && a.lossLimit.toNat ≤ 15) && 2 ≤ a.reply.toNat
      && (role == .observer || a.interest != 0)) = true ↔ configureInRange a role := by
    cases role <;> simp [configureInRange, and_assoc]
  simp only [← roleArg_eq_some, ← rateArg_eq_some]
  unfold configureArg
  cases hrole : roleArg a.role with
  | none => simp
  | some role =>
    cases hrate : rateArg a.rate with
    | none => simp
    | some rate =>
      simp only [range, Option.some.injEq, Option.ite_none_right_eq_some, exists_and_left, exists_eq_left']
      exact and_congr_right fun _ => eq_comm

/-- R74, R191: the records that the values of a CONFIGURE give. -/
theorem configureArg_eq_some {a : ConfigureArgs} {c : ConfigRecord} : configureArg a = some c ↔
    a.role = c.role.code ∧ a.rate = c.rate.code
      ∧ c.period = a.period.toNat ∧ 1 ≤ c.period ∧ c.lossLimit = a.lossLimit.toNat ∧ 3 ≤ c.lossLimit ∧ c.lossLimit ≤ 15
      ∧ c.reply = a.reply.toNat ∧ 2 ≤ c.reply
      ∧ c.interest = a.interest ∧ (c.role = .contender → c.interest ≠ 0) ∧ c.watch = a.watch := by
  rw [configureArg_eq_record]
  constructor
  · rintro ⟨role, rate, hrole, hrate, ⟨period, three, fifteen, reply, groups⟩, rfl⟩
    exact ⟨hrole, hrate, rfl, period, rfl, three, fifteen, rfl, reply, rfl, groups, rfl⟩
  · rintro ⟨hrole, hrate, period, one, limit, three, fifteen, reply, two, interest, groups, watch⟩
    refine ⟨c.role, c.rate, hrole, hrate,
      ⟨period ▸ one, limit ▸ three, limit ▸ fifteen, reply ▸ two, interest ▸ groups⟩, ?_⟩
    rw [configureRecord, ← period, ← limit, ← reply, ← interest, ← watch]

/-! ## CONFIGURE, START, LEAVE -/

/-- Settles O6. -/
theorem configureFollowsItsChecks : Obligations.ConfigureFollowsItsChecks := by
  intro a s ready
  have busy : s.driverActive = true ↔ s.line.onLine ≠ none := Option.isSome_iff_ne_none
  refine ⟨fun refused => ?_, fun state idle bad => ?_, fun c state idle good => ?_, fun c => configureArg_eq_some⟩
  · exact exec_configure_ready a ready (if_pos (refused.imp_right busy.mpr)) rfl
  · have allowed : ¬ (s.session.state ≠ .setup ∨ s.driverActive = true) := by simp [state, idle, busy]
    have refused : hostConfigure a s = (s, .of .badValue) := by rw [hostConfigure, if_neg allowed, bad]
    exact exec_configure_ready a ready refused rfl
  · have allowed : ¬ (s.session.state ≠ .setup ∨ s.driverActive = true) := by simp [state, idle, busy]
    have taken : hostConfigure a s = ({ s with session := { s.session with config := some c } }, .of .ok) := by
      rw [hostConfigure, if_neg allowed, good]
    exact exec_configure_ready a ready taken rfl

/-- Settles O7. -/
theorem startFollowsItsChecks : Obligations.StartFollowsItsChecks := by
  intro s ready
  refine ⟨fun state => ?_, fun state config => ?_, fun c state config sound => ?_, fun c state config silenced => ?_⟩
  · exact exec_start_ready ready (if_pos state) rfl
  · have refused : hostStart s = (s, .of .notConfigured) := by simp [hostStart, state, config]
    exact exec_start_ready ready refused rfl
  · have started : hostStart s = (s.activate.enterListening .start none, .of .ok) := by
      simp [hostStart, state, config, sound]
    refine (exec_start_ready ready started rfl).trans ?_
    have join : s.activate.config.joinMs = 2 * (c.period * 10) := by simp [State.config, config, ConfigRecord.joinMs]; rfl
    simp only [State.enterListening, join]
    rfl
  · have started : hostStart s =
        ({ s.activate with standing := s.standing.noProgress }.enterState .silent .start none, .of .ok) := by
      simp [hostStart, state, config, silenced]
    exact exec_start_ready ready started rfl

theorem cutLoose_all (l : LineInterface) :
    (l.cutLoose fun _ => true) = { l with onLine := l.onLine.map fun f => { f with live := false } } := by
  simp [LineInterface.cutLoose]

/-- Settles O8. -/
theorem leaveEndsTheSession : Obligations.LeaveEndsTheSession := by
  refine ⟨fun s ready => ⟨fun member => ?_, fun atOnce => ?_, fun elsewhere => ?_⟩, fun cause e => ⟨fun shown => ?_, fun c releasing was => ?_,
    fun waits => ?_⟩⟩
  · have left : hostLeave s = (s.leaveMember, .of .ok) := by simp only [hostLeave, member]
    exact exec_leave_ready ready left rfl
  · have left : hostLeave s = (s.leaveAtOnce, .of .ok) := by
      rcases atOnce with state | state | state <;> simp only [hostLeave, state]
    exact exec_leave_ready ready left rfl
  · have refused : hostLeave s = (s, .of .wrongState) := by
      rcases elsewhere with state | state | state | state <;> simp only [hostLeave, state]
    exact exec_leave_ready ready refused rfl
  · have shows : e.showsHeld = true := by
      rcases shown with held | ⟨⟨c, releasing⟩, was⟩
      · simp [ClaimEntry.showsHeld, held]
      · simp [ClaimEntry.showsHeld, releasing, was]
    cases cause <;> simp [clearNotice, shows]
  · simp [clearNotice, ClaimEntry.showsHeld, releasing, was]
  · rcases waits with state | state <;> simp [clearNotice, ClaimEntry.showsHeld, state]

/-! ## CLAIM, RELEASE, ABANDON -/

/-- R12: the table and the placement order that a CLAIM leaves. -/
theorem State.createClaim_eq {s : State} {r : Resource} (fresh : s.entry? r = none) (patience : Option Nat) :
    s.createClaim r patience = { s with
      claims := { s.claims with
        seq := s.claims.seq + 1
        table := insertAsc (fun e => e.resource.val)
          { ClaimEntry.created r (s.claims.seq + 1) patience s.session.tick with
            slot := { onLine := none, unsent := some .firstClaim } } s.claims.table }
      scheduler := { s.scheduler with order := s.scheduler.order.filter (· != .entry r) ++ [.entry r] } } := by
  have others (e : ClaimEntry) (he : e ∈ s.claims.table) : e.resource ≠ r := State.entry?_eq_none.mp fresh e he
  have table := map_insertAsc (fun e => e.resource.val) (ClaimEntry.created r (s.claims.seq + 1) patience s.session.tick)
    s.claims.table (fun e => if e.resource = r then { e with slot := { e.slot with unsent := some .firstClaim } } else e)
    (fun e => by split <;> rfl) fun e he => if_neg (others e he)
  have new : (ClaimEntry.created r (s.claims.seq + 1) patience s.session.tick).resource = r := rfl
  rw [if_pos new] at table
  unfold State.createClaim State.placeRequest State.modifyEntry
  dsimp only
  rw [table]
  rfl

/-- Settles O9. -/
theorem claimFollowsItsChecks : Obligations.ClaimFollowsItsChecks := by
  intro x p s ready
  refine ⟨fun notMember notObserving => ?_, fun state => ⟨fun observer => ?_, fun contender => ⟨fun large => ?_, fun r arg => ?_⟩⟩⟩
  · exact exec_claim_ready x p ready (if_pos ⟨notMember, notObserving⟩) rfl
  all_goals have allowed : ¬ (s.session.state ≠ .member ∧ s.session.state ≠ .observing) := by tauto
  · have refused : hostClaim x p s = (s, .of .role) := by rw [hostClaim, if_neg allowed, if_pos observer]
    exact exec_claim_ready x p ready refused rfl
  all_goals have notObserver : ¬ s.config.role = .observer := by simp [contender]
  · have refused : hostClaim x p s = (s, .of .badValue) := by
      rw [hostClaim, if_neg allowed, if_neg notObserver, resourceArg_of_le large]
    exact exec_claim_ready x p ready refused rfl
  · have refused {st : Status} (check : s.claimCheck r = some st) :
        exec (.claim x p) s = .next (s.answer (.claim x p) st []) := by
      have answered : hostClaim x p s = (s, .of st) := by
        simp only [hostClaim, if_neg allowed, if_neg notObserver, resourceArg_of_lt arg, check]
      exact exec_claim_ready x p ready answered rfl
    have duplicate : (∃ e ∈ s.claims.table, e.resource = r) ↔ (s.entry? r).isSome = true := by
      rw [Option.isSome_iff_ne_none, ne_eq, State.entry?_eq_none]
      simp
    have top : s.claims.clock = 0xFFFFFFFFFFFF ↔ exhausted s.claims.clock = true := by simp [exhausted, Config.clockTop]
    intro _
    simp only [duplicate, top]
    by_cases interest : inGroups s.config.interest r = false
    · rw [if_pos interest]
      exact refused (by simp [State.claimCheck, interest])
    by_cases impaired : s.standing.standing = .impaired
    · rw [if_neg interest, if_pos impaired]
      exact refused (by simp [State.claimCheck, interest, impaired])
    by_cases spent : exhausted s.claims.clock = true
    · rw [if_neg interest, if_neg impaired, if_pos spent]
      exact refused (by simp [State.claimCheck, interest, impaired, spent])
    by_cases taken : (s.entry? r).isSome = true
    · rw [if_neg interest, if_neg impaired, if_neg spent, if_pos taken]
      exact refused (by simp [State.claimCheck, interest, impaired, spent, taken])
    by_cases full : 16 ≤ s.claims.table.length
    · rw [if_neg interest, if_neg impaired, if_neg spent, if_neg taken, if_pos full]
      exact refused (by simp [State.claimCheck, interest, impaired, spent, taken, full, Config.claimTableSize])
    · rw [if_neg interest, if_neg impaired, if_neg spent, if_neg taken, if_neg full]
      have passes : s.claimCheck r = none := by
        simp [State.claimCheck, interest, impaired, spent, taken, full, Config.claimTableSize]
      have accepted : hostClaim x p s =
          (s.createClaim r (patienceArg p), { status := .ok, data := [byteOf (s.claims.seq + 1).val] }) := by
        simp only [hostClaim, if_neg allowed, if_neg notObserver, resourceArg_of_lt arg, passes]
      have fresh : s.entry? r = none := by simpa using taken
      have deadline : (patienceArg p).map (s.session.tick + ·) = if p = 0 then none else some (s.session.tick + p.toNat) := by
        unfold patienceArg
        split <;> rfl
      refine (exec_claim_ready x p ready accepted rfl).trans ?_
      rw [State.createClaim_eq fresh, ClaimEntry.created, deadline]
      rfl

/-- R25: what entry to RELEASING does. -/
theorem State.enterReleasing_eq (s : State) (r : Resource) (reason : CloseReason) : s.enterReleasing r reason = { s with
    claims := { s.claims with table := changeAt r (ClaimEntry.releases reason) s.claims.table }
    scheduler := { s.scheduler with order := s.scheduler.order.filter (· != .entry r) ++ [.entry r] } } := by
  rw [← s.enterReleasing_table]
  rfl

/-- Settles O10. -/
theorem releaseFollowsItsTable : Obligations.ReleaseFollowsItsTable := by
  refine ⟨fun x s ready => ⟨fun large => ?_, fun r arg => ⟨fun absent => ?_, fun e he => ⟨fun waits => ?_, fun held => ?_,
    fun reason releasing => ?_⟩⟩⟩, fun r reason s => s.enterReleasing_eq r reason⟩
  · exact exec_release_ready (r := .of .badValue) x ready (by simp only [hostRelease, resourceArg_of_le large]) rfl
  all_goals have known := resourceArg_of_lt arg
  · exact exec_release_ready (r := .of .noEntry) x ready (by simp only [hostRelease, known, absent]) rfl
  · refine exec_release_ready (r := .of .notHeld) x ready ?_ rfl
    rcases waits with state | state <;> simp only [hostRelease, known, he, state]
  · have entered : hostRelease x s = (s.enterReleasing r .released, .of .ok) := by simp only [hostRelease, known, he, held]
    exact exec_release_ready x ready entered rfl
  · exact exec_release_ready (r := .of .busy) x ready (by simp only [hostRelease, known, he, releasing]) rfl

/-- Settles O11. -/
theorem abandonFollowsItsTable : Obligations.AbandonFollowsItsTable := by
  intro x s ready
  refine ⟨fun large => ?_, fun r arg => ⟨fun absent => ?_, fun e he => ⟨fun queued => ?_, fun wanted => ?_, fun held => ?_,
    fun reason releasing => ?_⟩⟩⟩
  · exact exec_abandon_ready (r := .of .badValue) x ready (by simp only [hostAbandon, resourceArg_of_le large]) rfl
  all_goals have known := resourceArg_of_lt arg
  · exact exec_abandon_ready (r := .of .noEntry) x ready (by simp only [hostAbandon, known, absent]) rfl
  · have removed : hostAbandon x s = (s.removeEntry r, .of .ok) := by simp only [hostAbandon, known, he, queued]
    exact exec_abandon_ready x ready removed rfl
  · have entered : hostAbandon x s = (s.enterReleasing r .abandoned, .of .ok) := by simp only [hostAbandon, known, he, wanted]
    exact exec_abandon_ready x ready entered rfl
  · exact exec_abandon_ready (r := .of .held) x ready (by simp only [hostAbandon, known, he, held]) rfl
  · exact exec_abandon_ready (r := .of .busy) x ready (by simp only [hostAbandon, known, he, releasing]) rfl

end Sys2Proof.Machine

/-! PROOFS. The host commands that read, and the bytes of their answers (R70, R71, R112, R162 to R174, R184, R185, R192, R193). -/

namespace Sys2Proof.Machine

/-! ## The bytes of the read commands -/

theorem State.statusBytes_eq (s : State) : s.statusBytes =
    [s.session.state.code, (match s.session.config with | none => 0xFF | some c => c.role.code),
      byteOf s.session.number.val, byteOf s.session.incarnation.val,
      s.standing.standing.code, byteOf s.standing.sendFaults, byteOf s.standing.receiveFaults,
      byteOf s.standing.recoveryFrames]
    ++ bytesBE 2 s.standing.recoveryQuiet ++ bytesBE 6 s.claims.clock.toNat
    ++ [byteOf s.claims.table.length, byteOf s.answers.length, byteOf s.notices.queue.length,
        byteOf ((if s.notices.marksPending then 1 else 0) + (if s.session.config = none then 0 else 2))]
    ++ (match s.session.config with
        | none => List.replicate 8 0
        | some c => [c.rate.code, byteOf c.period, byteOf c.lossLimit, byteOf c.reply]
            ++ bytesBE 2 c.interest.toNat ++ bytesBE 2 c.watch.toNat) := by
  unfold State.statusBytes
  cases s.session.config <;> simp [bitOf, configBytes, bytesBE]

theorem claimPart_eq (tick : Nat) (e : ClaimEntry) : claimPart tick e =
    [match e.state with | .queued => 1 | .wanted => 2 | .held => 3 | .releasing _ => 4, byteOf e.seq.val]
    ++ bytesBE 6 (match e.stamp with | none => 0 | some t => t.toNat)
    ++ [byteOf ((if e.announced then 1 else 0) + (if e.wasHeld then 2 else 0) + (if e.patience = none then 0 else 4)),
        match e.state with
        | .releasing .released => 1 | .releasing .abandoned => 2 | .releasing .expired => 3
        | .queued | .wanted | .held => 0,
        byteOf e.awaiting.length, byteOf e.waiters.length]
    ++ (match e.waiters with
        | [] => List.replicate 8 0
        | w :: _ => [byteOf w.station.val, byteOf w.seq.val] ++ bytesBE 6 w.stamp.toNat)
    ++ [byteOf e.resendCount] ++ bytesBE 2 (match e.patience with | none => 0 | some d => d - tick)
    ++ e.awaiting.map fun x => byteOf x.val := by
  have state : e.state.code = match e.state with | .queued => 1 | .wanted => 2 | .held => 3 | .releasing _ => 4 := by
    cases e.state <;> rfl
  have close : e.state.closeByte = match e.state with
      | .releasing .released => 1 | .releasing .abandoned => 2 | .releasing .expired => 3
      | .queued | .wanted | .held => 0 := by
    cases e.state with
    | releasing reason => cases reason <;> rfl
    | queued | wanted | held => rfl
  have stamp : (e.stamp.map BitVec.toNat).getD 0 = match e.stamp with | none => 0 | some t => t.toNat := by
    cases e.stamp <;> rfl
  have flags : bitOf e.announced + 2 * bitOf e.wasHeld + 4 * bitOf (e.patienceLeft tick).isSome =
      (if e.announced then 1 else 0) + (if e.wasHeld then 2 else 0) + (if e.patience = none then 0 else 4) := by
    have left : bitOf (e.patienceLeft tick).isSome = if e.patience = none then 0 else 1 := by
      cases hp : e.patience <;> simp [ClaimEntry.patienceLeft, hp, bitOf]
    rw [left]
    cases e.announced <;> cases e.wasHeld <;> split <;> rfl
  have patience : (e.patienceLeft tick).getD 0 = match e.patience with | none => 0 | some d => d - tick := by
    rw [ClaimEntry.patienceLeft]
    cases e.patience <;> rfl
  unfold claimPart
  dsimp only
  rw [state, close, stamp, flags, patience]
  cases e.waiters <;> rfl

/-- Settles O12. -/
theorem readCommandsChangeTheLinkAlone : Obligations.ReadCommandsChangeTheLinkAlone := by
  refine ⟨⟨?query, ?roster, ?peer, ?status⟩, State.statusBytes_eq, ?holders, claimPart_eq, ?members⟩
  case query =>
    refine fun x s ready => ⟨fun large => ?_, fun r arg => ?_⟩
    · exact exec_query_ready (r := .of .badValue) x ready (by simp only [hostQuery, resourceArg_of_le large]) rfl
    · have known := resourceArg_of_lt arg
      cases he : s.entry? r with
      | none =>
        exact exec_query_ready (r := { status := .ok, data := viewPart r (viewAt s.view r) ++ [] }) x ready
          (by simp only [hostQuery, known, he, Option.map_none, Option.getD_none]) rfl
      | some e =>
        exact exec_query_ready (r := { status := .ok, data := viewPart r (viewAt s.view r) ++ claimPart s.session.tick e }) x
          ready (by simp only [hostQuery, known, he, Option.map_some, Option.getD_some]) rfl
  case roster => exact fun s ready => exec_roster_ready ready rfl rfl
  case peer =>
    refine fun b s ready => ⟨fun large => ?_, fun x arg => ⟨fun stranger => ?_, fun m member => ?_⟩⟩
    · exact exec_peer_ready (r := .of .badValue) b ready (by simp only [hostPeer, stationArg_of_le large]) rfl
    · exact exec_peer_ready (r := .of .noEntry) b ready (by simp only [hostPeer, stationArg_of_lt arg, stranger]) rfl
    · exact exec_peer_ready (r := { status := .ok, data := peerRecord m }) b ready
        (by simp only [hostPeer, stationArg_of_lt arg, member]) rfl
  case status => exact fun s ready => exec_status_ready ready rfl rfl
  case holders => exact fun r x i q first latest => ⟨rfl, rfl, rfl, rfl, rfl, rfl, rfl, rfl, rfl, rfl⟩
  case members =>
    intro m standing
    have code : advertisedCode m.standing = standing := by
      simp only [standing]
      cases m.standing <;> rfl
    have heard : byteOf (bitOf m.heardUs) = if m.heardUs then 1 else 0 := by cases m.heardUs <;> rfl
    exact ⟨by rw [rosterRecord, code], by rw [peerRecord, code, heard]; rfl⟩

/-! ## FETCH and DISMISS -/

theorem identityBytes_eq (y : Option Identity) : identityBytes y =
    match y with
    | none => [0xFF, 0]
    | some .own => [0x40, 0]
    | some (.peer z j) => [byteOf z.val, byteOf j.val] := by
  rcases y with _ | (_ | ⟨z, j⟩) <;> rfl

/-- Settles O13. -/
theorem fetchAndDismissAtTheHead : Obligations.FetchAndDismissAtTheHead := by
  refine ⟨?fetch, ?dismiss, ?summaries, ?records, rfl⟩
  case fetch =>
    refine fun s ready => ⟨fun empty => ?_, fun n rest queue => ?_⟩
    · exact exec_fetch_ready (r := .of .empty) ready (by simp only [hostFetch, empty]) rfl
    · exact exec_fetch_ready (r := { status := .ok, data := n.bytes ++ s.notices.tailBytes }) ready
        (by simp only [hostFetch, queue]) rfl
  case dismiss =>
    refine fun b s ready => ⟨fun empty => ?_, fun n rest queue => ⟨fun other => ?_, fun head => ?_⟩⟩
    · exact exec_dismiss_ready (r := .of .empty) b ready (by simp only [hostDismiss, empty]) rfl
    · exact exec_dismiss_ready (r := .of .stale) b ready (by simp only [hostDismiss, queue, if_neg other]) rfl
    · intro summary q
      have left : s.summarise { s.notices with queue := rest } = q := by
        simp only [q, summary, State.summarise, NoticeQueue.enter]
        cases s.notices.sessionMark with
        | true => rfl
        | false =>
          cases s.notices.stationMarks with
          | cons x more => rfl
          | nil => cases s.notices.resourceMarks <;> rfl
      have taken : hostDismiss b s = ({ s with notices := q }, { status := .ok, data := q.tailBytes }) := by
        simp only [hostDismiss, queue, if_pos head, left]
      exact exec_dismiss_ready b ready taken rfl
  case summaries =>
    refine fun s x r => ⟨rfl, fun stranger => ?_, fun m member => ?_, fun absent => ?_, fun e he => ?_⟩
    · simp only [State.summaryStation, stranger, Option.map_none]
    · simp only [State.summaryStation, member, Option.map_some]
    · simp only [State.summaryResource, absent, Option.map_none]
    · simp only [State.summaryResource, he, Option.map_some]
  case records =>
    intro k r x i n a b fill standing state heard first latest h g v q identity record
    have same (y : Option Identity) : identity y = identityBytes y := (identityBytes_eq y).symm
    refine ⟨rfl, fun reason cause => ?closed, fun cause => ?revoked, rfl, ?view, fun event => ?peer, ?standing, fun cause omitting => ?session,
      rfl, rfl, fun st => ?station, ?resource, fun c => ?claim⟩
    case closed => cases reason <;> rcases cause with _ | (_ | _ | _ | _) <;> rfl
    case revoked => cases cause <;> rfl
    case view =>
      rw [same, same]
      cases v <;> rfl
    case peer => cases event <;> rfl
    case standing => cases standing <;> rfl
    case session => cases cause <;> cases omitting <;> rfl
    case station => cases st <;> cases heard <;> rfl
    case resource =>
      rw [same, same]
      exact congrArg _ (List.append_assoc ..)
    case claim =>
      rw [same, same]
      cases c <;> rfl

/-! ## REPEAT -/

/-- Settles O14. -/
theorem repeatAnswersFromTheRecord : Obligations.RepeatAnswersFromTheRecord := by
  intro s ready answer
  have given : repeatAnswer s.link.record = answer := by
    simp only [answer]
    cases s.link.record <;> rfl
  have taken : exec .repeatLast s = .next (s.takeRepeat (linkFrame .repeatLast) hostRepeat) := by
    simp only [exec, execRepeat, State.hostStep, ready.linkReady, if_true]
  rw [taken, State.takeRepeat, hostRepeat, given]
  rfl

end Sys2Proof.Machine

/-! PROOFS. The local link: what a check byte decides, the edges of LK_SEL, the bytes that the host clocks, and the link frames
of the host commands (R176 to R182, R191). -/

namespace Sys2Proof.Machine

/-! ## Two-byte arguments -/

theorem word16_toNat (hi lo : Byte) : (word16 hi lo).toNat = 256 * hi.toNat + lo.toNat := by
  rw [word16, BitVec.toNat_append, ← Nat.shiftLeft_add_eq_or_of_lt lo.isLt, Nat.shiftLeft_eq]
  omega

theorem bytesBE_word16 (hi lo : Byte) : bytesBE 2 (word16 hi lo).toNat = [hi, lo] := by
  have low := lo.isLt
  rw [word16_toNat]
  refine congrArg₂ (fun a b => [a, b]) (BitVec.eq_of_toNat_eq ?_) (BitVec.eq_of_toNat_eq ?_)
  all_goals
    simp only [BitVec.toNat_ofNat]
    omega

theorem word16_bytesBE (x : BitVec 16) :
    word16 (BitVec.ofNat 8 (x.toNat / 256 ^ 1)) (BitVec.ofNat 8 (x.toNat / 256 ^ 0)) = x := by
  have small := x.isLt
  refine BitVec.eq_of_toNat_eq ?_
  simp only [word16_toNat, BitVec.toNat_ofNat]
  omega

/-! ## Codes and argument lengths -/

theorem argumentLength_eq_some {code : Byte} {n : Nat} (known : argumentLength code = some n) :
    n = 9 ∧ code = 1 ∨ n = 0 ∧ (code = 2 ∨ code = 3 ∨ code = 8 ∨ code = 10 ∨ code = 12 ∨ code = 13) ∨ n = 4 ∧ code = 4
      ∨ n = 2 ∧ (code = 5 ∨ code = 6 ∨ code = 7) ∨ n = 1 ∧ (code = 9 ∨ code = 11) := by
  have named (k : Byte) : code = k ↔ code.toNat = k.toNat := BitVec.toNat_inj.symm
  simp only [named, BitVec.ofNat_eq_ofNat, BitVec.toNat_ofNat, Nat.reducePow, Nat.reduceMod]
  unfold argumentLength at known
  split at known <;> cases known <;> omega

theorem argumentLength_eq_none {code : Byte} (unknown : code.toNat = 0 ∨ 13 < code.toNat) : argumentLength code = none := by
  unfold argumentLength
  split <;> [omega; omega; omega; omega; omega; omega; omega; omega; omega; omega; omega; omega; omega; rfl]

/-- R191: bytes of the length that their code asks for are the frame of a command. -/
theorem commandOf_of_length {code : Byte} {args : List Byte} {n : Nat} (known : argumentLength code = some n)
    (length : args.length = n) : ∃ c, commandOf code args = some c ∧ linkFrame c = commandFrame code args := by
  rcases argumentLength_eq_some known with ⟨rfl, rfl⟩ | ⟨rfl, codes⟩ | ⟨rfl, rfl⟩ | ⟨rfl, codes⟩ | ⟨rfl, codes⟩
  · match args, length with
    | [role, rate, p, l, i, g1, g0, w1, w0], _ =>
      refine ⟨_, rfl, ?_⟩
      simp only [linkFrame, configureBytes, bytesBE_word16]
      rfl
  · obtain rfl := List.length_eq_zero_iff.mp length
    rcases codes with rfl | rfl | rfl | rfl | rfl | rfl <;> exact ⟨_, rfl, rfl⟩
  · match args, length with
    | [r1, r0, p1, p0], _ =>
      refine ⟨_, rfl, ?_⟩
      simp only [linkFrame, bytesBE_word16]
      rfl
  · match args, length with
    | [r1, r0], _ =>
      rcases codes with rfl | rfl | rfl <;> exact ⟨_, rfl, by simp only [linkFrame, bytesBE_word16]⟩
  · obtain ⟨x, rfl⟩ := List.length_eq_one_iff.mp length
    rcases codes with rfl | rfl <;> exact ⟨_, rfl, rfl⟩

/-! ## The three tests -/

/-- R179: the tests after the check byte's, in their order. -/
theorem linkVerdict_of_crc {code len check : Byte} {args : List Byte} (crc : check = crc8 (code :: len :: args)) :
    (argumentLength code = none → linkVerdict (code :: len :: args) check = .error .unknownCommand)
    ∧ ∀ n, argumentLength code = some n →
      (len.toNat ≠ n → linkVerdict (code :: len :: args) check = .error .badLength)
      ∧ (len.toNat = n → ∀ c, commandOf code args = some c → linkVerdict (code :: len :: args) check = .taken c) := by
  refine ⟨fun unknown => ?_, fun n known => ⟨fun other => ?_, fun same c named => ?_⟩⟩
  · simp only [linkVerdict, crc, ne_eq, not_true, if_false, unknown]
  · simp only [linkVerdict, crc, ne_eq, not_true, if_false, known, other, not_false_iff, if_true]
  · simp only [linkVerdict, crc, ne_eq, not_true, if_false, known, same, named]

/-- A whole frame whose length byte and code agree is the frame of the command that it is taken as. -/
theorem linkVerdict_taken {code len check : Byte} {args : List Byte} {n : Nat} (whole : args.length = len.toNat)
    (crc : check = crc8 (code :: len :: args)) (known : argumentLength code = some n) (length : len.toNat = n) :
    ∃ c, linkVerdict (code :: len :: args) check = .taken c ∧ linkFrame c = code :: len :: args := by
  obtain ⟨c, named, frame⟩ := commandOf_of_length known (whole.trans length)
  refine ⟨c, ((linkVerdict_of_crc crc).2 n known).2 length c named, frame.trans ?_⟩
  rw [commandFrame, whole, byteOf, BitVec.ofNat_toNat, BitVec.setWidth_eq]

/-- A frame that is taken is the frame of the command that it is taken as. -/
theorem linkFrame_of_taken {frame : List Byte} {check : Byte} {c : Instr} (whole : linkFrameWhole frame = true)
    (taken : linkVerdict frame check = .taken c) : linkFrame c = frame := by
  match frame with
  | [] => cases whole
  | [_] => cases whole
  | code :: len :: args =>
    have length : args.length = len.toNat := of_decide_eq_true whole
    by_cases crc : check = crc8 (code :: len :: args)
    · cases known : argumentLength code with
      | none => cases ((linkVerdict_of_crc crc).1 known).symm.trans taken
      | some n =>
        by_cases same : len.toNat = n
        · obtain ⟨d, taken', frame⟩ := linkVerdict_taken length crc known same
          cases taken'.symm.trans taken
          exact frame
        · cases (((linkVerdict_of_crc crc).2 n known).1 same).symm.trans taken
    · cases (show linkVerdict (code :: len :: args) check = .error .linkCrc from if_pos crc).symm.trans taken

/-- R178: the check byte of this frame can complete. -/
theorem State.linkReady_of {s : State} {frame : List Byte} (released : s.session.resetAsserted = false)
    (gathered : s.link.phase = .command → s.link.received = [] ∨ s.link.received = frame) : s.linkReady frame = true := by
  unfold State.linkReady
  by_cases command : s.link.phase = .command
  · rcases gathered command with empty | same
    · simp [released, empty]
    · simp [released, same]
  · simp [released, command]

/-- R179: a host command whose check byte can complete runs. -/
theorem exec_runCommand {s : State} {c : Instr} (host : linkFrame c ≠ []) (ready : s.linkReady (linkFrame c) = true) :
    exec c s = .next (s.runCommand c) := by
  cases c with
  | configure | start | leave | claim | release | abandon | query | roster | peer | fetch | dismiss | status | repeatLast =>
    exact congrArg Host.Outcome.next (if_pos ready)
  | _ => exact absurd rfl host

theorem exec_linkTransactionError {s : State} {frame : List Byte} {check : Byte} (whole : linkFrameWhole frame = true)
    (ready : s.linkReady frame = true) : exec (.linkTransactionError frame check) s = .next (s.checkByte frame check) := by
  simp only [exec, execLinkTransactionError, commandWhole, whole, ready, Bool.and_self, if_true]

/-- Settles O15. -/
theorem transactionErrorsByTheThreeTests : Obligations.TransactionErrorsByTheThreeTests := by
  refine ⟨fun code len args check whole => ⟨fun crc => if_pos crc, fun crc => ⟨fun unknown => ?_, fun n known other => ?_,
    fun n known same => linkVerdict_taken whole crc known same⟩⟩,
    fun frame check s whole released gathered => ⟨fun st failed => ?_, fun c taken => ?_⟩⟩
  · exact (linkVerdict_of_crc crc).1 (argumentLength_eq_none unknown)
  · exact ((linkVerdict_of_crc crc).2 n known).1 other
  all_goals have ready := State.linkReady_of released gathered
  · rw [exec_linkTransactionError whole ready, State.checkByte, failed]
    rfl
  · have spells := linkFrame_of_taken whole taken
    have host : linkFrame c ≠ [] := by
      rw [spells]
      rintro rfl
      cases whole
    rw [exec_linkTransactionError whole ready, State.checkByte, taken, exec_runCommand host (spells ▸ ready)]

/-- Settles O52, by the command: its code, its length byte and its arguments are read back. -/
theorem linkFrameSpellsTheCommand : Obligations.LinkFrameSpellsTheCommand := by
  intro c host
  have taken {code : Byte} {args : List Byte} {n : Nat} (frame : linkFrame c = commandFrame code args)
      (known : argumentLength code = some n) (length : args.length = n) (named : commandOf code args = some c) :
      linkVerdict (linkFrame c) (crc8 (linkFrame c)) = .taken c := by
    have short : n < 256 := by
      rcases argumentLength_eq_some known with h | h | h | h | h <;> omega
    have declared : (byteOf args.length).toNat = n := by
      rw [length, byteOf, BitVec.toNat_ofNat]
      omega
    rw [frame]
    exact ((linkVerdict_of_crc rfl).2 n known).2 declared c named
  cases c with
  | configure a =>
    refine taken rfl rfl rfl (congrArg some (congrArg Instr.configure ?_))
    exact congrArg₂ (fun interest watch => { a with interest := interest, watch := watch }) (word16_bytesBE a.interest)
      (word16_bytesBE a.watch)
  | claim r p => exact taken rfl rfl rfl (congrArg₂ (fun r p => some (Instr.claim r p)) (word16_bytesBE r) (word16_bytesBE p))
  | release r => exact taken rfl rfl rfl (congrArg (fun r => some (Instr.release r)) (word16_bytesBE r))
  | abandon r => exact taken rfl rfl rfl (congrArg (fun r => some (Instr.abandon r)) (word16_bytesBE r))
  | query r => exact taken rfl rfl rfl (congrArg (fun r => some (Instr.query r)) (word16_bytesBE r))
  | start | leave | roster | peer | fetch | dismiss | status | repeatLast => exact taken rfl rfl rfl rfl
  | _ => exact absurd rfl host

/-! ## LK_SEL and the clocked bytes -/

/-- Settles O16. -/
theorem selectionFramesATransaction : Obligations.SelectionFramesATransaction := by
  refine fun s => ⟨fun deselected released => ?_, fun deselected asserted => ?_, fun selected => ?_⟩
  · simp only [exec, execTransactionBegin, deselected, released, Bool.false_eq_true, if_false]
    rfl
  · simp only [exec, execTransactionBegin, deselected, asserted, Bool.false_eq_true, if_false, if_true]
  · simp only [exec, execTransactionEnd, selected, if_true]
    rfl

/-- Settles O17, by the phase of the Link Port. -/
theorem clockedByteByPhase : Obligations.ClockedByteByPhase := by
  refine fun b s => ⟨fun idle => ?_, fun command part => ?_, fun command whole released => ?_, fun k turnaround => ?_,
    fun k response => ?_, fun done => ?_⟩
  · simp only [exec, execByteClocked, idle]
  · simp only [exec, execByteClocked, command, commandWhole, part, Bool.false_eq_true, if_false, LinkPort.gather]
  · have ready : s.linkReady s.link.received = true := State.linkReady_of released fun _ => .inr rfl
    rw [exec_linkTransactionError whole ready]
    simp only [exec, execByteClocked, command, commandWhole, whole, if_true]
  · have second : k + 1 < 2 ↔ k = 0 := by omega
    simp only [exec, execByteClocked, turnaround, LinkPort.turn, Config.turnaroundBytes, second, Config.fillByte]
    by_cases first : k = 0 <;> simp [first]
  · simp only [exec, execByteClocked, response]
    rfl
  · simp only [exec, execByteClocked, done]

end Sys2Proof.Machine

/-! PROOFS. Received frames: what their parts leave, the clock, recovery by frames, the own number and receive faults
(R1, R122, R124, R127, R131, R132, R151, R156, R157). -/

namespace Sys2Proof.Machine

/-! ## What the parts of a frame leave -/

/-- What the roster's event, the answers and the view of a frame leave alone; the line, where no own frame is on it. -/
structure State.EventFrame (s t : State) : Prop where
  session : t.session = s.session
  standing : t.standing = s.standing
  notices : t.notices = s.notices
  link : t.link = s.link
  pending : t.pending = s.pending
  clock : t.claims.clock = s.claims.clock
  seq : t.claims.seq = s.claims.seq
  line : s.line.onLine = none → t.line = s.line

theorem State.SameBase.event {s t : State} (h : s.SameBase t) : s.EventFrame t :=
  ⟨h.session, h.standing, h.notices, h.link, h.pending, h.clock, h.seq, h.line⟩

theorem State.EventFrame.refl (s : State) : s.EventFrame s := (State.SameBase.refl s).event

theorem State.EventFrame.trans {s t u : State} (h : s.EventFrame t) (k : t.EventFrame u) : s.EventFrame u :=
  ⟨k.session.trans h.session, k.standing.trans h.standing, k.notices.trans h.notices, k.link.trans h.link,
    k.pending.trans h.pending, k.clock.trans h.clock, k.seq.trans h.seq,
    fun hn => (k.line (by rw [h.line hn]; exact hn)).trans (h.line hn)⟩

theorem State.modifyEntry_event (s : State) (r : Resource) (f : ClaimEntry → ClaimEntry) : s.EventFrame (s.modifyEntry r f) :=
  ⟨rfl, rfl, rfl, rfl, rfl, rfl, rfl, fun _ => rfl⟩

theorem State.modifyMember_event (s : State) (x : Station) (f : Member → Member) : s.EventFrame (s.modifyMember x f) :=
  ⟨rfl, rfl, rfl, rfl, rfl, rfl, rfl, fun _ => rfl⟩

theorem State.withdrawGrants_event (s : State) (p : GrantItem → Bool) : s.EventFrame (s.withdrawGrants p) :=
  ⟨rfl, rfl, rfl, rfl, rfl, rfl, rfl, fun hn => LineInterface.cutLoose_none hn _⟩

theorem State.view_event (s : State) (v : List ViewEntry) : s.EventFrame { s with view := v } :=
  ⟨rfl, rfl, rfl, rfl, rfl, rfl, rfl, fun _ => rfl⟩

theorem Take.purge_event (k : Take) (x : Station) : k.state.EventFrame (k.purge x).state := by
  refine State.EventFrame.trans ?_ (Take.foldl_moveToHeld_base _ _).event
  exact ⟨rfl, rfl, rfl, rfl, rfl, rfl, rfl, fun hn => LineInterface.cutLoose_none hn _⟩

theorem State.placeResend_seq (s : State) (r : Resource) : (s.placeResend r).claims.seq = s.claims.seq := by
  unfold State.placeResend
  split <;> [rfl; (dsimp only; split <;> rfl)]

theorem State.await_seq (s : State) (r : Resource) (x : Station) : (s.await r x).claims.seq = s.claims.seq := by
  unfold State.await State.resendNow
  split
  · rfl
  · split
    · dsimp only
      split
      · rw [State.placeResend_seq]
        rfl
      · rfl
    · rfl

theorem State.await_event (s : State) (r : Resource) (x : Station) : s.EventFrame (s.await r x) :=
  ⟨by simp, by simp, by simp, by simp, by simp, by simp, s.await_seq r x, fun _ => by simp⟩

theorem State.enrol_event (s : State) (h : Header) (p : Presence) : s.EventFrame (s.enrol h p) := by
  have awaits (l : List Resource) (t : State) : t.EventFrame (l.foldl (fun t r => t.await r h.source) t) := by
    induction l generalizing t with
    | nil => exact .refl t
    | cons r l ih => exact (t.await_event r h.source).trans (ih _)
  have admitted : s.EventFrame { s with roster := insertAsc (fun m => m.station.val) (Member.admitted h p) s.roster } :=
    ⟨rfl, rfl, rfl, rfl, rfl, rfl, rfl, fun _ => rfl⟩
  exact admitted.trans (awaits _ _)

theorem State.grantClaim_event (s : State) (p : Station) (r : Resource) (q : ClaimSeq) : s.EventFrame (s.grantClaim p r q) := by
  unfold State.grantClaim
  split
  · exact .refl s
  · rename_i queue _
    have queued : s.EventFrame ({ s with answers := queue }.modifyEntry r (ClaimEntry.dropStaleWaiter p q)) :=
      ⟨rfl, rfl, rfl, rfl, rfl, rfl, rfl, fun _ => rfl⟩
    dsimp only
    split
    · exact queued.trans (State.await_event _ _ _)
    · exact queued

theorem State.answerClaim_event (s : State) (h : Header) (r : Resource) (q : ClaimSeq) (t : Clock) :
    s.EventFrame (s.answerClaim h r q t) := by
  unfold State.answerClaim
  split
  · split
    · exact s.grantClaim_event h.source r q
    · exact s.modifyEntry_event r _
  · exact .refl s

theorem State.answerFree_event (s : State) (h : Header) (r : Resource) : s.EventFrame (s.answerFree h r) := by
  unfold State.answerFree
  split
  · exact (s.withdrawGrants_event _).trans (State.modifyEntry_event _ r _)
  · exact .refl s

theorem Take.rosterOther_event (k : Take) (restart : Member → Member) (h : Header) :
    k.state.EventFrame (k.rosterOther restart h).1.state := by
  unfold Take.rosterOther
  split
  · exact .refl _
  · split
    · exact State.modifyMember_event _ _ _
    · exact k.purge_event _

theorem Take.rosterWithdraw_event (k : Take) (h : Header) : k.state.EventFrame (k.rosterWithdraw h).1.state := by
  unfold Take.rosterWithdraw
  split
  · exact .refl _
  · exact k.purge_event _

theorem Take.rosterPresence_event (k : Take) (h : Header) (p : Presence) :
    k.state.EventFrame (k.rosterPresence h p).1.state := by
  unfold Take.rosterPresence
  split
  · exact k.state.enrol_event h p
  · split
    · exact State.modifyMember_event _ _ _
    · exact (k.purge_event _).trans (State.enrol_event _ h p)

theorem Take.grantReceived_event (k : Take) (h : Header) (x : Station) (r : Resource) (q : ClaimSeq) :
    k.state.EventFrame (k.grantReceived h x r q).state := by
  unfold Take.grantReceived
  split
  · exact (k.answered_base r h.source).event
  · exact .refl _

/-- The answer to a CLAIM. -/
def Take.claimReceived (k : Take) (h : Header) (r : Resource) (q : ClaimSeq) (t : Clock) : Take :=
  k.on fun s => s.answerClaim h r q t

/-- The view's part of a HOLD. -/
def Take.holdReceived (k : Take) (h : Header) (r : Resource) (q : ClaimSeq) : Take :=
  (k.sweep h).addHolder r (.peer h.source h.incarnation (.hold q))

/-- The view's part of a FREE. -/
def Take.freeViewed (k : Take) (h : Header) (r : Resource) : Take :=
  (k.sweep h).on fun t => { t with view := dropAt r (Holder.isPeer h.source) t.view }

/-- The parts of a FREE after the roster's. -/
def Take.freeReceived (k : Take) (h : Header) (r : Resource) : Take :=
  ((k.freeViewed h r).answered r h.source).on fun t => t.answerFree h r

theorem State.takeClaim_eq (s : State) (h : Header) (r : Resource) (q : ClaimSeq) (t : Clock) : s.takeClaim h r q t =
    ((s.begin.rosterOther Member.restart h).1.claimReceived h r q t).finish s (s.begin.rosterOther Member.restart h).2 := rfl

theorem State.takeGrant_eq (s : State) (h : Header) (x : Station) (r : Resource) (q : ClaimSeq) : s.takeGrant h x r q =
    ((s.begin.rosterOther Member.restart h).1.grantReceived h x r q).finish s (s.begin.rosterOther Member.restart h).2 := rfl

theorem State.takeHold_eq (s : State) (h : Header) (r : Resource) (q : ClaimSeq) : s.takeHold h r q =
    ((s.begin.rosterOther (Member.restartByHold r) h).1.holdReceived h r q).finish s
      (s.begin.rosterOther (Member.restartByHold r) h).2 := rfl

theorem State.takeFree_eq (s : State) (h : Header) (r : Resource) : s.takeFree h r =
    ((s.begin.rosterOther Member.restart h).1.freeReceived h r).finish s (s.begin.rosterOther Member.restart h).2 := rfl

theorem Take.claimReceived_event (k : Take) (h : Header) (r : Resource) (q : ClaimSeq) (t : Clock) :
    k.state.EventFrame (k.claimReceived h r q t).state := k.state.answerClaim_event h r q t

theorem Take.holdReceived_event (k : Take) (h : Header) (r : Resource) (q : ClaimSeq) :
    k.state.EventFrame (k.holdReceived h r q).state := k.state.view_event _

theorem Take.freeReceived_event (k : Take) (h : Header) (r : Resource) : k.state.EventFrame (k.freeReceived h r).state := by
  have viewed : k.state.EventFrame (k.freeViewed h r).state := k.state.view_event _
  exact (viewed.trans (Take.answered_base _ r h.source).event).trans (State.answerFree_event _ h r)

theorem Take.foldl_addHolder_event (l : List Resource) (holder : Holder) (k : Take) :
    k.state.EventFrame (l.foldl (fun t r => t.addHolder r holder) k).state := by
  induction l generalizing k with
  | nil => exact .refl _
  | cons r l ih => exact (k.state.view_event _).trans (ih (k.addHolder r holder))

theorem Take.viewPresence_event (k : Take) (h : Header) (p : Presence) : k.state.EventFrame (k.viewPresence h p).state :=
  have swept : k.state.EventFrame ((k.sweep h).on fun s => { s with view := dropUnlisted h.source p.held 0 s.view }).state :=
    k.state.view_event _
  swept.trans (Take.foldl_addHolder_event _ _ _)

/-- The parts keep what every frame does, when no own frame is on the line. -/
theorem State.Took.event {s t u : State} {h : Header} (ht : s.Took t h) (hb : t.EventFrame u) (hn : s.line.onLine = none) :
    s.Took u h := by
  have idle : t.line.onLine = none := by rw [ht.line]; exact hn
  exact ⟨hb.clock.trans ht.clock, (hb.line idle).trans ht.line, hb.standing.trans ht.standing, hb.seq.trans ht.seq,
    hb.session.trans ht.session, hb.link.trans ht.link, hb.pending.trans ht.pending⟩

/-! ## The parts of a PRESENCE -/

/-- A PRESENCE before a heard list can make it a lapse (R127). -/
def State.presenceTaken (s : State) (h : Header) (p : Presence) : State :=
  (((s.begin.rosterPresence h p).1.on fun t => t.hearOwn h p).viewPresence h p).finish s (s.begin.rosterPresence h p).2

theorem State.takePresence_eq (s : State) (h : Header) (p : Presence) :
    s.takePresence h p = (s.presenceTaken h p).omission h p := rfl

theorem State.presenceTaken_session (s : State) (h : Header) (p : Presence) :
    (s.presenceTaken h p).session = s.session.reports p := by
  refine ((Take.viewPresence_event _ h p).session).trans ?_
  exact congrArg (SessionController.reports · p) (s.begin.rosterPresence_event h p).session

/-- What every frame does, of a PRESENCE that may have stepped the candidate. -/
theorem State.presenceTaken_took {s t : State} {h : Header} (p : Presence) (ht : s.Took t h) (hn : s.line.onLine = none) :
    State.Took { s with session := (t.presenceTaken h p).session } (t.presenceTaken h p) h := by
  have roster := ht.event (t.begin.rosterPresence_event h p) hn
  have heard : State.Took { s with session := s.session.reports p } ((t.begin.rosterPresence h p).1.state.hearOwn h p) h :=
    ⟨roster.clock, roster.line, roster.standing, roster.seq, congrArg (SessionController.reports · p) roster.session,
      roster.link, roster.pending⟩
  have viewed := (heard.event (Take.viewPresence_event ((t.begin.rosterPresence h p).1.on fun u => u.hearOwn h p) h p) hn).finish
    t (t.begin.rosterPresence h p).2
  have session : (t.presenceTaken h p).session = s.session.reports p := by rw [State.presenceTaken_session, ht.session]
  rw [session]
  exact viewed

/-! ## A valid frame -/

theorem State.validFrame_notices (s : State) (h : Header) : (s.validFrame h).notices = s.countValid.notices := by
  show (State.countValid { s with line := s.line.frameEnd .rotating h.source }).notices = _
  unfold State.countValid
  split
  · rfl
  · rw [State.setCounts_notices, State.setCounts_notices]

/-- The clock, the round state and the blocks that no part of a frame reaches. -/
structure State.RoundFrame (s t : State) : Prop where
  clock : t.claims.clock = s.claims.clock
  seq : t.claims.seq = s.claims.seq
  base : t.line.base = s.line.base
  carrier : t.line.carrierInTick = s.line.carrierInTick
  link : t.link = s.link
  pending : t.pending = s.pending

theorem State.RoundFrame.trans {s t u : State} (h : s.RoundFrame t) (k : t.RoundFrame u) : s.RoundFrame u :=
  ⟨k.clock.trans h.clock, k.seq.trans h.seq, k.base.trans h.base, k.carrier.trans h.carrier, k.link.trans h.link,
    k.pending.trans h.pending⟩

theorem State.EventFrame.round {s t : State} (h : s.EventFrame t) (idle : s.line.onLine = none) : s.RoundFrame t :=
  ⟨h.clock, h.seq, by rw [h.line idle], by rw [h.line idle], h.link, h.pending⟩

theorem State.EventFrame.finish {s : State} {k : Take} (h : s.EventFrame k.state) (idle : s.line.onLine = none) (b : State)
    (p : Option NoticeBody) : s.RoundFrame (k.finish b p) := by
  obtain ⟨clock, seq, base, carrier, link, pending⟩ := h.round idle
  exact ⟨clock, seq, base, carrier, link, pending⟩

theorem State.presenceTaken_event (s : State) (h : Header) (p : Presence) :
    ∃ t, State.EventFrame { s with session := s.session.reports p } t ∧ s.presenceTaken h p =
      { t with notices := (s.presenceTaken h p).notices } := by
  have roster := s.begin.rosterPresence_event h p
  have heard : State.EventFrame { s with session := s.session.reports p }
      ((s.begin.rosterPresence h p).1.state.hearOwn h p) :=
    ⟨congrArg (SessionController.reports · p) roster.session, roster.standing, roster.notices, roster.link, roster.pending,
      roster.clock, roster.seq, roster.line⟩
  exact ⟨_, heard.trans (Take.viewPresence_event ((s.begin.rosterPresence h p).1.on fun t => t.hearOwn h p) h p), rfl⟩

theorem State.omission_round (s : State) (h : Header) (p : Presence) : s.RoundFrame (s.omission h p) := by
  unfold State.omission
  split <;> exact ⟨rfl, rfl, rfl, rfl, rfl, rfl⟩

/-- The parts of any frame keep the clock, the base and the blocks that no frame reaches. -/
theorem State.takeParts_round {s : State} (f : Frame) (idle : s.line.onLine = none) : s.RoundFrame (s.takeParts f) := by
  unfold State.takeParts
  split
  · rename_i p _
    obtain ⟨t, event, taken⟩ := s.presenceTaken_event f.header p
    have round : s.RoundFrame (s.presenceTaken f.header p) := by
      obtain ⟨clock, seq, base, carrier, link, pending⟩ := event.round idle
      rw [taken]
      exact ⟨clock, seq, base, carrier, link, pending⟩
    exact round.trans (State.omission_round _ _ _)
  · exact ((s.begin.rosterOther_event _ _).trans (Take.claimReceived_event _ _ _ _ _)).finish idle s _
  · exact ((s.begin.rosterOther_event _ _).trans (Take.grantReceived_event _ _ _ _ _)).finish idle s _
  · exact ((s.begin.rosterOther_event _ _).trans (Take.holdReceived_event _ _ _ _)).finish idle s _
  · exact ((s.begin.rosterOther_event _ _).trans (Take.freeReceived_event _ _ _)).finish idle s _
  · exact (s.begin.rosterWithdraw_event _).finish idle s _

theorem State.duplicateNumber_round (s : State) : s.RoundFrame s.duplicateNumber := ⟨rfl, rfl, rfl, rfl, rfl, rfl⟩

/-! ## Counting a valid frame -/

theorem State.countValid_silent {s : State} (silent : s.session.state = .silent) : s.countValid =
    { s with standing := { s.standing with recoveryFrames := s.standing.recoveryFrames + 1, recoveryQuiet := 0 } } :=
  if_pos silent

/-- In SILENT a valid frame raises the clock, sets the round and counts for recovery. -/
theorem State.validFrame_silent {s : State} (silent : s.session.state = .silent) (h : Header) : s.validFrame h =
    { s with
      claims := { s.claims with clock := if s.claims.clock < h.clock then h.clock else s.claims.clock }
      line := { s.line with phase := .quiet, roundType := .rotating, base := h.source, carrierInTick := true }
      standing := { s.standing with recoveryFrames := s.standing.recoveryFrames + 1, recoveryQuiet := 0 } } := by
  rw [State.validFrame, State.countValid_silent (by exact silent)]
  rfl

/-- The clock, the base and the blocks that no frame reaches, after the first effects of a valid frame. -/
theorem State.validFrame_round (s : State) (h : Header) :
    (s.validFrame h).claims.clock = (if s.claims.clock < h.clock then h.clock else s.claims.clock)
      ∧ (s.validFrame h).claims.seq = s.claims.seq
      ∧ (s.validFrame h).line = { s.line with phase := .quiet, roundType := .rotating, base := h.source, carrierInTick := true }
      ∧ (s.validFrame h).link = s.link ∧ (s.validFrame h).pending = s.pending := by
  by_cases silent : s.session.state = .silent
  · rw [State.validFrame_silent silent]
    exact ⟨rfl, rfl, rfl, rfl, rfl⟩
  · have took := s.validFrame_took h silent
    exact ⟨took.clock, took.seq, took.line, took.link, took.pending⟩

theorem deriveStanding_eq (st : Standing) (a b : Nat) :
    deriveStanding st a b = if st = .silenced then .silenced else if a < 120 ∧ b < 120 then .sound else .impaired := by
  cases st <;> simp [deriveStanding, Config.impairedAt]

/-- Settles O18: in SILENT the take-in stops after the clock; outside it no part of a frame reaches what is asked. -/
theorem validFrameRaisesTheClock : Obligations.ValidFrameRaisesTheClock := by
  refine ⟨fun c f s frame valid hearing => ?_, fun s => ⟨fun silent => ?_, fun loud => ?_⟩, deriveStanding_eq⟩
  · obtain ⟨clock, seq, line, link, pending⟩ := s.validFrame_round f.header
    have idle : (s.validFrame f.header).line.onLine = none := by rw [line]; exact hearing.2.1
    have round : (s.validFrame f.header).RoundFrame (s.takeIn f) := by
      unfold State.takeIn
      dsimp only
      split
      · unfold State.recoverByFrames
        split <;> exact ⟨rfl, rfl, rfl, rfl, rfl, rfl⟩
      · split
        · exact State.duplicateNumber_round _
        · exact State.takeParts_round f idle
    refine ⟨s.takeIn f, (exec_frameOf frame s).trans (by rw [hearing.receive valid]), round.clock.trans clock,
      round.seq.trans seq, round.base.trans (by rw [line]), round.carrier.trans (by rw [line]), round.link.trans link,
      round.pending.trans pending, fun silent few => ?_⟩
    have taken : s.takeIn f = s.validFrame f.header := by
      have below : ¬ 48 ≤ s.standing.recoveryFrames + 1 := Nat.not_le.mpr few
      simp only [State.takeIn, silent, if_true, State.recoverByFrames, State.validFrame_silent silent, Config.recoveryFrames,
        if_neg below]
    rw [taken, State.validFrame_silent silent]
    exact ⟨rfl, rfl, rfl, rfl, rfl, rfl, rfl, rfl⟩
  · rw [State.countValid_silent silent]
  · simp only [State.countValid, if_neg loud]
    exact State.setCounts_notices s _ _

/-- Settles O19. -/
theorem silentFramesCountForRecovery : Obligations.SilentFramesCountForRecovery := by
  intro c f s frame valid hearing silent clock line
  have taken : exec c s = .next (s.validFrame f.header).recoverByFrames := by
    rw [exec_frameOf frame, hearing.receive valid]
    simp only [State.takeIn, silent, if_true]
  refine ⟨fun few => ?_, fun last => ?_⟩
  · have below : ¬ 48 ≤ s.standing.recoveryFrames + 1 := Nat.not_le.mpr few
    rw [taken, State.validFrame_silent silent, State.recoverByFrames, if_neg below]
  · rw [taken, State.validFrame_silent silent, State.recoverByFrames, if_pos last.ge]
    rfl

/-- Settles O20: the duplicate-number event after the first effects of the frame. -/
theorem ownNumberHaltsTheStation : Obligations.OwnNumberHaltsTheStation := by
  intro c f s frame valid hearing loud own
  have took := s.validFrame_took f.header loud
  have taken : exec c s = .next (s.validFrame f.header).duplicateNumber := by
    rw [exec_frameOf frame, hearing.receive valid]
    simp only [State.takeIn, if_neg loud, if_pos own]
  refine ⟨_, taken, ?session, ?claims, rfl, rfl, rfl, rfl, ?phase, ?onLine, took.link, took.pending, ?notices⟩
  case session =>
    show { (s.validFrame f.header).session with state := .halted, heardSet := [], joinWindow := none, ownPresence := none } = _
    rw [took.session]
  case claims =>
    show { (s.validFrame f.header).claims with table := [] } = _
    rw [← took.clock]
    exact congrArg (fun q => ({ clock := _, seq := q, table := [] } : ClaimEngine)) took.seq
  case phase =>
    show (s.validFrame f.header).line.phase.uncount = _
    rw [took.line]
    rfl
  case onLine =>
    show ((s.validFrame f.header).line.cutLoose fun _ => true).onLine = none
    rw [LineInterface.cutLoose_onLine_eq_none, took.line]
    exact hearing.2.1
  case notices =>
    show NoticeQueue.give (((s.validFrame f.header).claims.table.map (clearNotice .duplicate)).foldl NoticeQueue.give
      (s.validFrame f.header).notices) _ = _
    rw [State.validFrame_table, State.validFrame_notices]

/-! ## Receive faults -/

/-- R122, R123: bytes that are taken as a frame are taken as a valid one. -/
theorem frameValid_of_frameOfBytes {bs : List Byte} {f : Frame} (h : frameOfBytes bs = some f) : frameValid f = true := by
  unfold frameOfBytes at h
  dsimp only at h
  split at h
  · exact (Option.filter_eq_some_iff.mp h).2
  · cases h

/-- R151, R156: a receive fault in SILENT, and elsewhere. -/
theorem State.takeFault_eq (s : State) :
    (s.session.state = .silent → s.takeFault = { s with
      line := { s.line with phase := .quiet, roundType := .fixed, carrierInTick := true }
      standing := { s.standing with recoveryFrames := 0, recoveryQuiet := 0 } })
    ∧ (s.session.state ≠ .silent → s.takeFault =
      { s with line := { s.line with phase := .quiet, roundType := .fixed, carrierInTick := true } }.setCounts
        s.standing.sendFaults (min 240 (s.standing.receiveFaults + 2))) :=
  ⟨fun silent => if_pos silent, fun loud => if_neg loud⟩

theorem State.setCounts_eq (s : State) (a b : Nat) : s.setCounts a b = { s with
    standing := { s.standing with
      sendFaults := a, receiveFaults := b, standing := deriveStanding s.standing.standing a b }
    notices := if deriveStanding s.standing.standing a b = s.standing.standing then s.notices
      else s.notices.give (.standing (deriveStanding s.standing.standing a b) a b) } := by
  unfold State.setCounts
  dsimp only
  split <;> rfl

/-- Settles O21. -/
theorem receiveFaultCounts : Obligations.ReceiveFaultCounts := by
  refine ⟨fun c s hearing faulty => ?_, fun c f bs s frame spelled => ?_, fun cs bs s framed => ?_⟩
  · intro line n st
    have taken : exec c s = .next s.takeFault := by
      rcases faulty with rfl | rfl | ⟨bs, rfl, bad⟩ | ⟨cs, rfl, bad⟩ | ⟨f, frame, invalid⟩
      · exact congrArg Host.Outcome.next (hearing.spanEnds _)
      · exact congrArg Host.Outcome.next (hearing.spanEnds _)
      · refine congrArg Host.Outcome.next ((hearing.spanEnds _).trans ?_)
        simp only [State.takeActivity, State.takeBytes, bad]
      · refine congrArg Host.Outcome.next ((hearing.spanEnds _).trans ?_)
        simp only [State.takeActivity, bad]
      · rw [exec_frameOf frame, State.receive, hearing.spanEnds, invalid]
        rfl
    rw [taken]
    refine ⟨fun silent => ?_, fun loud => ?_⟩
    · rw [s.takeFault_eq.1 silent]
    · rw [s.takeFault_eq.2 loud, State.setCounts_eq]
  · have same (t : State) : t.takeBytes bs = if frameValid f then t.takeIn f else t.takeFault := by
      simp only [State.takeBytes, spelled, frameValid_of_frameOfBytes spelled, if_true]
    rw [exec_frameOf frame]
    exact congrArg (fun take => Host.Outcome.next (s.spanEnds take)) (funext same)
  · have same (t : State) : t.takeActivity (.cells cs) = t.takeActivity (.bytes bs) := by
      simp only [State.takeActivity, framed]
    exact congrArg (fun take => Host.Outcome.next (s.spanEnds take)) (funext same)

end Sys2Proof.Machine

/-! PROOFS. A received GRANT and a received CLAIM of the incarnation that the roster holds, or of a non-member (R16 to R18, R33 to
R41, R52, R53). -/

namespace Sys2Proof.Machine

/-! ## A frame that purges nobody -/

theorem State.TakesFrom.exec {s : State} {c : Instr} {f : Frame} (h : s.TakesFrom f.header) (frame : frameOf c = some f)
    (valid : frameValid f = true) : exec c s = .next ((s.validFrame f.header).takeParts f) := by
  rw [exec_frameOf frame, h.receive valid]

theorem State.TakesFrom.idle {s : State} {h : Header} (takes : s.TakesFrom h) : s.line.onLine = none := takes.1.2.1

theorem State.TakesFrom.took {s : State} {h : Header} (takes : s.TakesFrom h) : s.Took (s.validFrame h) h :=
  s.validFrame_took h takes.2.1

@[simp] theorem State.validFrame_viewWatch (s : State) (h : Header) : (s.validFrame h).viewWatch = s.viewWatch := by
  simp [State.viewWatch]

/-- R111: the notices of a frame's parts, after those of its count. -/
theorem Take.finish_notices {s : State} {h : Header} {k : Take} (given : k.state.notices = (s.validFrame h).notices)
    (peer : Option NoticeBody) : (k.finish (s.validFrame h) peer).notices =
      (peer.toList ++ (k.granted.map NoticeBody.granted ++ viewNotices k.conflicts s.viewWatch 0 s.view k.state.view)).foldl
        NoticeQueue.give s.countValid.notices := by
  rw [Take.finish, State.giveAll_notices, given, State.validFrame_notices, State.validFrame_viewWatch, State.validFrame_view]

/-- A valid frame of a member's incarnation, or of a non-member, when the roster has taken it. -/
def State.heard (s : State) (h : Header) (restart : Member → Member) : State :=
  (s.validFrame h).modifyMember h.source restart

section Heard

variable {s : State} {h : Header}

theorem State.NoPurge.rosterOther (noPurge : s.NoPurge h) (restart : Member → Member) :
    (s.validFrame h).begin.rosterOther restart h = ((s.heard h restart).begin, none) :=
  Take.rosterOther_noPurge (k := (s.validFrame h).begin) restart noPurge.validFrame

theorem State.TakesFrom.took_heard (takes : s.TakesFrom h) (restart : Member → Member) :
    s.Took (s.heard h restart) h :=
  takes.took.event (State.modifyMember_event _ _ _) takes.idle

@[simp] theorem State.heard_table (restart : Member → Member) : (s.heard h restart).claims.table = s.claims.table :=
  s.validFrame_table h

@[simp] theorem State.heard_entry? (restart : Member → Member) (r : Resource) : (s.heard h restart).entry? r = s.entry? r :=
  State.entry?_congr (State.heard_table restart) r

@[simp] theorem State.heard_answers (restart : Member → Member) : (s.heard h restart).answers = s.answers := by
  simp [State.heard]

@[simp] theorem State.heard_scheduler (restart : Member → Member) : (s.heard h restart).scheduler = s.scheduler := by
  simp [State.heard]

@[simp] theorem State.heard_view (restart : Member → Member) : (s.heard h restart).view = s.view := by simp [State.heard]

theorem State.heard_roster (restart : Member → Member) : (s.heard h restart).roster =
    s.roster.map fun m => if m.station = h.source then restart m else m := by
  show (s.validFrame h).roster.map _ = _
  rw [State.validFrame_roster]

theorem State.heard_restart_roster : (s.heard h Member.restart).roster = restarted h.source s.roster :=
  State.heard_roster Member.restart

theorem State.heard_notices (restart : Member → Member) : (s.heard h restart).notices = (s.validFrame h).notices := rfl

/-- Restarting a silence timer keeps who is a member with what incarnation. -/
theorem State.heard_member? {restart : Member → Member} (station : ∀ m, (restart m).station = m.station) (x : Station) :
    (s.heard h restart).member? x = (s.member? x).map fun m => if m.station = h.source then restart m else m := by
  rw [State.member?, State.heard_roster, find?_map_of_keeps _ _ fun m => by split <;> simp [station]]
  rfl

end Heard

/-! ## GRANT -/

/-- What counting a last answer adds to the notices of its event. -/
theorem Take.answered_events {k : Take} {r : Resource} {x : Station} {e : ClaimEntry} (he : k.state.entry? r = some e)
    (awaits : e.AwaitsAnswer x) :
    (e.awaiting.filter (· != x) ≠ [] →
      (k.answered r x).granted = k.granted ∧ (k.answered r x).conflicts = k.conflicts)
    ∧ (e.awaiting.filter (· != x) = [] → (k.answered r x).granted = insertResource r k.granted
      ∧ (k.answered r x).conflicts =
          if ((viewAt k.state.view r).add (.own e.seq)).2 then insertResource r k.conflicts else k.conflicts) := by
  let k1 : Take := k.on fun s => s.modifyEntry r fun y => { y with awaiting := y.awaiting.filter (· != x) }
  have counted : k.answered r x = k1.moveToHeld r := by
    simp only [Take.answered, he, awaits, and_self, if_true]
    rfl
  have entry : k1.state.entry? r = some { e with awaiting := e.awaiting.filter (· != x) } := by
    rw [Take.on_state, State.entry?_modifyEntry _ _ _ _ fun _ => by rfl, if_pos rfl, he, Option.map_some]
  rw [counted]
  refine ⟨fun more => ?_, fun last => ?_⟩
  · rw [Take.moveToHeld_of_not fun e' he' => ?_]
    · exact ⟨rfl, rfl⟩
    · obtain rfl := Option.some.inj (entry.symm.trans he')
      simpa [ClaimEntry.readyToHold, awaits.1, awaits.2.1] using more
  · have events := Take.moveToHeld_events entry (by simp [ClaimEntry.readyToHold, awaits.1, awaits.2.1, last])
    exact events

theorem insertResource_nil (r : Resource) : insertResource r [] = [r] := rfl

/-- Settles O22. -/
theorem grantReceivedIsAnAnswer : Obligations.GrantReceivedIsAnAnswer := by
  intro h x r q s takes noPurge
  let k : Take := (s.heard h Member.restart).begin
  have took : s.Took k.state h := takes.took_heard Member.restart
  have taken : exec (.receiveGrant h x r q) s = .next ((k.grantReceived h x r q).finish (s.validFrame h) none) := by
    rw [takes.exec (c := .receiveGrant h x r q) rfl rfl]
    show Host.Outcome.next ((s.validFrame h).takeGrant h x r q) = _
    rw [State.takeGrant_eq, noPurge.rosterOther]
  have number : k.state.session.number = s.session.number := congrArg SessionController.number took.session
  have base : k.state.SameBase (k.grantReceived h x r q).state := by
    unfold Take.grantReceived
    split
    · exact k.answered_base r h.source
    · exact .refl _
  have notices := Take.finish_notices (base.notices.trans (State.heard_notices (s := s) Member.restart)) none
  refine ⟨_, taken, (took.base base takes.idle).finish _ _, base.roster.trans State.heard_restart_roster, fun unmet => ?_,
    fun e own he seq awaits => ?_⟩
  · have same : k.grantReceived h x r q = k := by
      unfold Take.grantReceived
      split
      · rename_i matched
        refine Take.answered_of_not fun e he => ?_
        have he' : s.entry? r = some e := by simpa [k] using he
        rcases unmet with other | unmatched
        · exact absurd (matched.1.trans number) other
        · refine (unmatched e he').resolve_left fun ne => ne ?_
          simpa [he] using matched.2
      · rfl
    rw [same] at notices ⊢
    have quiet : viewNotices k.conflicts s.viewWatch 0 s.view k.state.view = [] := by
      rw [show k.state.view = s.view from State.heard_view Member.restart]
      exact viewNotices_same _ _ _
    rw [quiet] at notices
    exact ⟨State.heard_table Member.restart, State.heard_answers Member.restart, State.heard_scheduler Member.restart,
      State.heard_view Member.restart, notices⟩
  · have he' : k.state.entry? r = some e := (State.heard_entry? _ r).trans he
    have counted : k.grantReceived h x r q = k.answered r h.source := if_pos ⟨own.trans number.symm, by simp [he', seq]⟩
    obtain ⟨entries, more, last⟩ := Take.answered_awaited he' awaits
    obtain ⟨moreEvents, lastEvents⟩ := Take.answered_events he' awaits
    have view : k.state.view = s.view := State.heard_view Member.restart
    rw [counted] at notices ⊢
    refine ⟨(entries r).trans (if_pos rfl), fun r' ne => ((entries r').trans (if_neg ne)).trans (State.heard_entry? _ r'),
      fun others => ?_, fun empty => ?_⟩
    · obtain ⟨answers, scheduler, view'⟩ := more others
      obtain ⟨granted, conflicts⟩ := moreEvents others
      rw [granted, conflicts, view', view] at notices
      refine ⟨answers.trans (State.heard_answers _), scheduler.trans (State.heard_scheduler _), view'.trans view, ?_⟩
      rw [notices]
      exact congrArg (fun l => List.foldl NoticeQueue.give s.countValid.notices l) (viewNotices_same _ _ _)
    · obtain ⟨answers, scheduler, view'⟩ := last empty
      obtain ⟨granted, conflicts⟩ := lastEvents empty
      rw [view] at view' conflicts
      rw [granted, conflicts] at notices
      exact ⟨answers.trans (congrArg _ (State.heard_answers _)), by rw [Take.finish_scheduler, scheduler]; simp [k], view', notices⟩

end Sys2Proof.Machine

/-! PROOFS. A received CLAIM of the incarnation that the roster holds, or of a non-member (R28, R29, R33 to R41). -/

namespace Sys2Proof.Machine

/-! ## Deferrals -/

theorem ClaimEntry.recordsDeferrals_iff (e : ClaimEntry) :
    e.recordsDeferrals = true ↔ e.state = .wanted ∧ e.announced = true ∨ e.state = .held := by
  unfold ClaimEntry.recordsDeferrals
  cases he : e.state <;> simp

theorem ClaimEntry.recordWaiter_of_same {e : ClaimEntry} {w : Waiter}
    (same : ∃ v ∈ e.waiters, v.station = w.station ∧ v.seq = w.seq) : e.recordWaiter w = e := by
  obtain ⟨v, mem, station, seq⟩ := same
  exact if_pos (List.any_eq_true.mpr ⟨v, mem, by simp [station, seq]⟩)

theorem ClaimEntry.recordWaiter_of_new {e : ClaimEntry} {w : Waiter}
    (new : ∀ v ∈ e.waiters, ¬ (v.station = w.station ∧ v.seq = w.seq)) :
    e.recordWaiter w = { e with waiters := insertWaiter w (e.waiters.filter fun v => v.station != w.station) } := by
  refine if_neg fun same => ?_
  obtain ⟨v, mem, hv⟩ := List.any_eq_true.mp same
  exact new v mem (by simpa using hv)

/-- R4, R9: a waiter comes before another when it has the smaller stamp, or at equal stamps the smaller station number. -/
theorem Waiter.key_lt_iff (v w : Waiter) :
    v.key < w.key ↔ v.stamp < w.stamp ∨ v.stamp = w.stamp ∧ v.station < w.station := by
  have hv := v.station.isLt
  have hw := w.station.isLt
  have stamps : v.stamp = w.stamp ↔ v.stamp.toNat = w.stamp.toNat := BitVec.toNat_inj.symm
  rw [stamps, BitVec.lt_def, Fin.lt_def, Waiter.key, Waiter.key, priorityKey, priorityKey]
  omega

theorem Waiter.station_of_key {v w : Waiter} (same : v.key = w.key) : v.station = w.station := by
  have hv := v.station.isLt
  have hw := w.station.isLt
  simp only [Waiter.key, priorityKey] at same
  exact Fin.ext (by omega)

/-- R9: which waiters a new waiter joins. -/
theorem mem_insertWaiter_iff {w v : Waiter} {l : List Waiter} :
    v ∈ insertWaiter w (l.filter fun x => x.station != w.station) ↔ v = w ∨ v ∈ l ∧ v.station ≠ w.station := by
  have others : v ∈ l.filter (fun x => x.station != w.station) ↔ v ∈ l ∧ v.station ≠ w.station := by simp
  constructor
  · exact fun mem => (mem_insertAsc _ _ _ _ mem).imp_right others.mp
  · rintro (rfl | other)
    · exact self_mem_insertAsc _ _ _
    · exact mem_insertAsc_of_mem _ _ _ _ (others.mpr other) fun same => other.2 (Waiter.station_of_key same)

/-! ## A GRANT decision -/

section

variable {s : State} {p : Station} {r : Resource} {q : ClaimSeq} {queue : List GrantItem}

/-- R38, R39: the entries after a GRANT decision that joins the queue. -/
theorem State.grantClaim_entry? (joins : joinAnswers s.answers { target := p, resource := r, seq := q } = some queue)
    (r' : Resource) :
    (s.grantClaim p r q).entry? r' = if r' = r then (s.entry? r).map (ClaimEntry.grantsTo p q) else s.entry? r' := by
  unfold State.grantClaim
  rw [joins]
  have stale (x : Resource) : ({ s with answers := queue }.modifyEntry r (ClaimEntry.dropStaleWaiter p q)).entry? x =
      if x = r then (s.entry? x).map (ClaimEntry.dropStaleWaiter p q) else s.entry? x :=
    State.entry?_modifyEntry _ _ _ _ (ClaimEntry.dropStaleWaiter_resource p q)
  by_cases hr : r' = r
  · subst r'
    rw [if_pos rfl]
    dsimp only
    cases he : s.entry? r with
    | none => simp [stale, he]
    | some e =>
      by_cases again : e.reawaits p = true
      · simp [again, State.entry?_await, stale, he, ClaimEntry.grantsTo]
      · simp [again, stale, he, ClaimEntry.grantsTo]
  · rw [if_neg hr]
    dsimp only
    split
    · rw [State.entry?_await, if_neg hr, stale, if_neg hr]
    · rw [stale, if_neg hr]

/-- R19: an announced entry that awaits a station again takes the place of its re-send, unless a request waits already. -/
theorem State.await_scheduler {e : ClaimEntry} (he : s.entry? r = some e) (wanted : e.state = .wanted)
    (announced : e.announced = true) (x : Station) :
    (s.await r x).scheduler = if e.slot.unsent = none then s.scheduler.place (.entry r) else s.scheduler := by
  have awaited : (s.await r x) = (s.modifyEntry r fun y => { y with awaiting := insertStation x y.awaiting }).resendNow r := by
    simp only [State.await, he, wanted, announced, if_true]
  rw [awaited, State.resendNow, State.placeResend_scheduler (e := { e with
    awaiting := insertStation x e.awaiting, resendDue := some .now })]
  · rfl
  · rw [State.entry?_modifyEntry _ _ _ _ fun _ => by rfl, if_pos rfl, State.entry?_modifyEntry _ _ _ _ fun _ => by rfl,
      if_pos rfl, he]
    rfl

theorem State.grantClaim_keeps (s : State) (p : Station) (r : Resource) (q : ClaimSeq) :
    (s.grantClaim p r q).roster = s.roster ∧ (s.grantClaim p r q).view = s.view := by
  unfold State.grantClaim
  split
  · exact ⟨rfl, rfl⟩
  · dsimp only
    split
    · exact ⟨State.await_roster _ _ _, State.await_view _ _ _⟩
    · exact ⟨rfl, rfl⟩

theorem State.grantClaim_answers (joins : joinAnswers s.answers { target := p, resource := r, seq := q } = some queue) :
    (s.grantClaim p r q).answers = queue := by
  unfold State.grantClaim
  rw [joins]
  dsimp only
  split
  · exact State.await_answers _ _ _
  · rfl

/-- R39: a claimant that the entry no longer awaits is awaited again with a re-send. -/
theorem State.grantClaim_scheduler_reawaits {e : ClaimEntry} (he : s.entry? r = some e) (again : e.reawaits p = true)
    (joins : joinAnswers s.answers { target := p, resource := r, seq := q } = some queue) :
    (s.grantClaim p r q).scheduler = if e.slot.unsent = none then s.scheduler.place (.entry r) else s.scheduler := by
  unfold State.grantClaim
  rw [joins]
  obtain ⟨⟨wanted, announced⟩, -⟩ : (e.state = .wanted ∧ e.announced = true) ∧ p ∉ e.awaiting := by
    simpa [ClaimEntry.reawaits] using again
  have stale : ({ s with answers := queue }.modifyEntry r (ClaimEntry.dropStaleWaiter p q)).entry? r =
      some { e with waiters := e.waiters.filter fun w => !(w.station == p && w.seq != q) } := by
    rw [State.entry?_modifyEntry _ _ _ _ (ClaimEntry.dropStaleWaiter_resource p q), if_pos rfl]
    show (s.entry? r).map _ = _
    simp [he, ClaimEntry.dropStaleWaiter, wanted]
  simp only [he, Option.any_some, again, if_true]
  rw [State.await_scheduler stale wanted announced]
  rfl

theorem State.grantClaim_scheduler_of_not (not : (s.entry? r).any (ClaimEntry.reawaits p) = false) :
    (s.grantClaim p r q).scheduler = s.scheduler := by
  unfold State.grantClaim
  split
  · rfl
  · simp [not]

end

/-! ## The claim -/

section

variable {s : State} {h : Header} {r : Resource} {q : ClaimSeq} {stamp : Clock}

theorem State.answerClaim_unanswered (unanswered : ¬ s.answers? h r = true) : s.answerClaim h r q stamp = s :=
  if_neg unanswered

theorem State.answerClaim_granted (answered : s.answers? h r = true)
    (decision : answerDecision s.session.number (s.entry? r) stamp h.source = .grant) :
    s.answerClaim h r q stamp = s.grantClaim h.source r q := by
  rw [State.answerClaim, if_pos answered, decision]

theorem State.answerClaim_deferred (answered : s.answers? h r = true)
    (decision : answerDecision s.session.number (s.entry? r) stamp h.source = .defer) :
    s.answerClaim h r q stamp = s.deferClaim h.source r q stamp := by
  rw [State.answerClaim, if_pos answered, decision]

theorem State.answerClaim_keeps (s : State) (h : Header) (r : Resource) (q : ClaimSeq) (stamp : Clock) :
    (s.answerClaim h r q stamp).roster = s.roster ∧ (s.answerClaim h r q stamp).view = s.view := by
  unfold State.answerClaim
  split
  · split
    · exact s.grantClaim_keeps h.source r q
    · exact ⟨rfl, rfl⟩
  · exact ⟨rfl, rfl⟩

end

/-- R33: when a claim is answered, of a state that has only taken the frame's first effects. -/
theorem State.heard_answers?_iff (s : State) (h : Header) (loud : s.session.state ≠ .silent) (r : Resource) :
    (s.heard h Member.restart).answers? h r = true ↔ s.session.state = .member ∧ s.config.role = .contender
      ∧ (∃ m, s.member? h.source = some m ∧ m.incarnation = h.incarnation) ∧ inGroups s.config.interest r = true := by
  have session : (s.heard h Member.restart).session = s.session := (s.validFrame_took h loud).session
  have config : (s.heard h Member.restart).config = s.config := (s.validFrame_config h)
  have member : (s.heard h Member.restart).isMember h.source h.incarnation = true ↔
      ∃ m, s.member? h.source = some m ∧ m.incarnation = h.incarnation := by
    rw [State.isMember, State.heard_member? fun _ => by rfl]
    cases hm : s.member? h.source with
    | none => simp
    | some m => by_cases hs : m.station = h.source <;> simp [hs, Member.restart]
  rw [State.answers?, session, config, Bool.and_eq_true, Bool.and_eq_true, Bool.and_eq_true, member, beq_iff_eq, beq_iff_eq,
    and_assoc, and_assoc]

/-- What a frame that adds nothing to the view gives: the notices of its count alone. -/
theorem Take.finish_quiet {s : State} {h : Header} {k : Take} (given : k.state.notices = (s.validFrame h).notices)
    (view : k.state.view = s.view) (granted : k.granted = []) (conflicts : k.conflicts = []) :
    (k.finish (s.validFrame h) none).notices = s.countValid.notices := by
  rw [Take.finish_notices given, granted, conflicts, view, viewNotices_same]
  rfl

/-- Settles O25: the claim is answered by the decision on the table, which the frame's first effects leave as it was. -/
theorem claimReceivedIsAnswered : Obligations.ClaimReceivedIsAnswered := by
  refine ⟨fun h r q stamp s takes noPurge => ?_,
    fun e w => ⟨e.recordsDeferrals_iff, ClaimEntry.recordWaiter_of_same, fun new ascends => ?_⟩, Waiter.key_lt_iff⟩
  · let u : State := s.heard h Member.restart
    have took : s.Took u h := takes.took_heard Member.restart
    have taken : exec (.receiveClaim h r q stamp) s =
        .next ((u.begin.claimReceived h r q stamp).finish (s.validFrame h) none) := by
      rw [takes.exec (c := .receiveClaim h r q stamp) rfl rfl]
      show Host.Outcome.next ((s.validFrame h).takeClaim h r q stamp) = _
      rw [State.takeClaim_eq, noPurge.rosterOther]
    have event := u.answerClaim_event h r q stamp
    have same := u.answerClaim_keeps h r q stamp
    have view := same.2.trans (State.heard_view Member.restart)
    have number : u.session.number = s.session.number := congrArg SessionController.number took.session
    refine ⟨_, taken, (took.event event takes.idle).finish _ _, same.1.trans State.heard_restart_roster, view,
      Take.finish_quiet (event.notices.trans (State.heard_notices Member.restart)) view rfl rfl, ?_⟩
    rw [← s.heard_answers?_iff h takes.2.1 r]
    have table : u.claims.table = s.claims.table := State.heard_table Member.restart
    have answers : u.answers = s.answers := State.heard_answers Member.restart
    have scheduler : u.scheduler = s.scheduler := State.heard_scheduler Member.restart
    have entry (x : Resource) : u.entry? x = s.entry? x := State.heard_entry? Member.restart x
    refine ⟨fun unanswered => ?_, fun answered decision => ?_, fun answered decision drops => ?_,
      fun queue answered decision joins => ?_⟩
    · have still : u.answerClaim h r q stamp = u := State.answerClaim_unanswered unanswered
      exact ⟨(congrArg (·.claims.table) still).trans table, (congrArg State.answers still).trans answers,
        (congrArg State.scheduler still).trans scheduler⟩
    · have deferred : u.answerClaim h r q stamp = u.deferClaim h.source r q stamp :=
        State.answerClaim_deferred answered (by rw [number, entry]; exact decision)
      refine ⟨(congrArg State.answers deferred).trans answers, (congrArg State.scheduler deferred).trans scheduler, ?_⟩
      refine (congrArg (·.claims.table) deferred).trans ?_
      rw [State.deferClaim_table, table, changeAt]
      refine List.map_congr_left fun e _ => ?_
      by_cases hr : e.resource = r <;> simp [hr, ClaimEntry.defers]
    · have dropped : u.answerClaim h r q stamp = u :=
        (State.answerClaim_granted answered (by rw [number, entry]; exact decision)).trans
          (State.grantClaim_dropped (by rw [answers]; exact drops))
      exact ⟨(congrArg (·.claims.table) dropped).trans table, (congrArg State.answers dropped).trans answers,
        (congrArg State.scheduler dropped).trans scheduler⟩
    · have granted : u.answerClaim h r q stamp = u.grantClaim h.source r q :=
        State.answerClaim_granted answered (by rw [number, entry]; exact decision)
      rw [← answers] at joins
      have entries (r' : Resource) : (u.answerClaim h r q stamp).entry? r' =
          if r' = r then (s.entry? r).map (ClaimEntry.grantsTo h.source q) else s.entry? r' := by
        rw [granted, State.grantClaim_entry? joins, entry, entry]
      have queued : (u.answerClaim h r q stamp).answers = queue := by rw [granted, State.grantClaim_answers joins]
      have order (not : (s.entry? r).any (ClaimEntry.reawaits h.source) = false) :
          (u.answerClaim h r q stamp).scheduler = s.scheduler := by
        rw [granted, State.grantClaim_scheduler_of_not (by rw [entry]; exact not), scheduler]
      refine ⟨queued, fun r' ne => (entries r').trans (if_neg ne), fun new => ⟨?_, order (by rw [new]; rfl)⟩,
        fun e he => ⟨fun other => ⟨?_, order ?_⟩, fun wanted => ⟨fun again => ⟨?_, ?_⟩, fun not => ⟨?_, order ?_⟩⟩⟩⟩
      · exact (entries r).trans (by simp [new])
      · refine (entries r).trans ?_
        simp [he, ClaimEntry.grantsTo, ClaimEntry.reawaits, ClaimEntry.dropStaleWaiter, other]
      · simp [he, ClaimEntry.reawaits, other]
      · refine (entries r).trans ?_
        simp [he, ClaimEntry.grantsTo, ClaimEntry.reawaits, ClaimEntry.dropStaleWaiter, ClaimEntry.awaits, wanted, again]
      · have awaits : e.reawaits h.source = true := by simp [ClaimEntry.reawaits, wanted, again]
        refine (congrArg State.scheduler granted).trans ?_
        rw [State.grantClaim_scheduler_reawaits ((entry r).trans he) awaits joins, scheduler]
        rfl
      · refine (entries r).trans ?_
        have stays : e.reawaits h.source = false := by simpa [ClaimEntry.reawaits, wanted] using not
        simp [he, ClaimEntry.grantsTo, stays, ClaimEntry.dropStaleWaiter, wanted]
      · simpa [he, ClaimEntry.reawaits, wanted] using not
  · rw [ClaimEntry.recordWaiter_of_new new]
    exact ⟨rfl, (ascends.filter _).insertAsc w, fun v => mem_insertWaiter_iff⟩

end Sys2Proof.Machine

/-! PROOFS. A received HOLD, and the View Table's operations on its entries (R96 to R102, R109 to R111). -/

namespace Sys2Proof.Machine

/-! ## The notices of an event, resource by resource -/

/-- R109, R110: the notices that one view entry gives. -/
def entryNotices (conflicts : List Resource) (watch : Option Groups) (r : Resource) (b a : ViewEntry) : List NoticeBody :=
  (match a with
    | .contested first latest => if r ∈ conflicts then [NoticeBody.conflict r first latest] else []
    | .unknown | .free | .held _ => [])
  ++ (match watch with
    | none => []
    | some g =>
      if inGroups g r = true ∧ (b.shownState ≠ a.shownState
          ∨ b.first.map Holder.identity ≠ a.first.map Holder.identity
          ∨ b.latest.map Holder.identity ≠ a.latest.map Holder.identity) then
        [NoticeBody.view r a.shownState (a.first.map Holder.identity) (a.latest.map Holder.identity)]
      else [])

theorem ViewEntry.shown_ne_iff {a b : ViewEntry} : (b.shown != a.shown) = true ↔ b.shownState ≠ a.shownState
    ∨ b.first.map Holder.identity ≠ a.first.map Holder.identity
    ∨ b.latest.map Holder.identity ≠ a.latest.map Holder.identity := by
  simp only [ViewEntry.shown, bne_iff_ne, ne_eq, Prod.mk.injEq]
  tauto

theorem viewNotices_cons (conflicts : List Resource) (watch : Option Groups) (n : Nat) (b a : ViewEntry)
    (before after : List ViewEntry) : viewNotices conflicts watch n (b :: before) (a :: after) =
      entryNotices conflicts watch (Fin.ofNat 256 n) b a ++ viewNotices conflicts watch (n + 1) before after := by
  simp only [viewNotices, entryNotices, List.append_assoc]
  cases watch with
  | none => cases a <;> rfl
  | some g => cases a <;> simp only [Bool.and_eq_true, ViewEntry.shown_ne_iff]

theorem viewNotices_eq_flatMap (conflicts : List Resource) (watch : Option Groups) (n : Nat) (before after : List ViewEntry)
    (same : before.length = after.length) : viewNotices conflicts watch n before after =
      (List.range after.length).flatMap fun i =>
        entryNotices conflicts watch (Fin.ofNat 256 (n + i)) (before.getD i .unknown) (after.getD i .unknown) := by
  induction after generalizing n before with
  | nil =>
    rw [List.length_nil, List.length_eq_zero_iff] at same
    subst same
    rfl
  | cons a after ih =>
    cases before with
    | nil => simp at same
    | cons b before =>
      rw [viewNotices_cons, ih (n + 1) before (Nat.succ.inj same), List.length_cons, List.range_succ_eq_map,
        List.flatMap_cons, List.flatMap_map]
      simp only [Nat.add_zero, List.getD_cons_zero, List.getD_cons_succ, Nat.add_assoc, Nat.add_comm 1]

theorem viewNotices_eq_finRange (conflicts : List Resource) (watch : Option Groups) {before after : List ViewEntry}
    (hb : before.length = 256) (ha : after.length = 256) : viewNotices conflicts watch 0 before after =
      (List.finRange 256).flatMap fun r => entryNotices conflicts watch r (viewAt before r) (viewAt after r) := by
  rw [viewNotices_eq_flatMap _ _ _ _ _ (hb.trans ha.symm), ha, ← List.map_coe_finRange_eq_range, List.flatMap_map]
  simp only [Nat.zero_add, Fin.ofNat_val_eq_self, viewAt]

/-! ## Holders -/

theorem ViewEntry.add_third {a b h : Holder} (ha : a.same h = false) (hb : b.same h = false) :
    (ViewEntry.contested a b).add h = (.contested (if b.isOwn then b else a) h, true) := by
  simp [ViewEntry.add, ha, hb]

theorem State.viewWatch_eq (s : State) :
    s.viewWatch = if s.session.state = .member ∨ s.session.state = .observing then some s.config.watch else none := by
  unfold State.viewWatch StationState.givesView
  cases s.session.state <;> rfl

/-! ## HOLD -/

section

variable {k : Take} {h : Header} {r : Resource} {q : ClaimSeq}

theorem Take.holdReceived_view (size : k.state.view.length = 256) (r' : Resource) :
    viewAt (k.holdReceived h r q).state.view r' =
      if r' = r then (((viewAt k.state.view r).drop (Holder.isStale h.source h.incarnation)).add
        (.peer h.source h.incarnation (.hold q))).1
      else (viewAt k.state.view r').drop (Holder.isStale h.source h.incarnation) := by
  have swept (x : Resource) : viewAt (k.sweep h).state.view x =
      (viewAt k.state.view x).drop (Holder.isStale h.source h.incarnation) := viewAt_dropEverywhere _ _ _
  have sweptSize : (k.sweep h).state.view.length = 256 := (dropEverywhere_length _ _).trans size
  show viewAt ((k.sweep h).state.view.set r.val _) r' = _
  rw [viewAt_set _ _ _ _ sweptSize, swept, swept]

theorem Take.holdReceived_conflicts : (k.holdReceived h r q).conflicts =
    if (((viewAt k.state.view r).drop (Holder.isStale h.source h.incarnation)).add
      (.peer h.source h.incarnation (.hold q))).2 then insertResource r k.conflicts else k.conflicts := by
  have swept : viewAt (k.sweep h).state.view r =
      (viewAt k.state.view r).drop (Holder.isStale h.source h.incarnation) := viewAt_dropEverywhere _ _ _
  rw [← swept]
  rfl

end

/-- Settles O26. -/
theorem holdReceivedReachesTheView : Obligations.HoldReceivedReachesTheView := by
  refine ⟨fun h r q s takes noPurge size => ?_, fun h => ⟨rfl, rfl, fun g same => ?_, fun g other => ?_, fun a b same => ?_,
      fun a b other same => ?_, fun a b => ViewEntry.add_third⟩,
    fun x y i j q q' src src' => ⟨rfl, rfl, rfl, ?_, fun old => ⟨rfl, rfl⟩, ?_, rfl, ?_, rfl, rfl, rfl⟩,
    fun p a b => ⟨rfl, rfl, rfl, fun ha hb => ?_, fun ha hb => ?_, fun ha hb => ?_, fun ha hb => ?_⟩,
    fun conflicts watch before after hb ha => viewNotices_eq_finRange conflicts watch hb ha, State.viewWatch_eq⟩
  · let u : State := s.heard h (Member.restartByHold r)
    have view : u.view = s.view := State.heard_view (Member.restartByHold r)
    have event := u.begin.holdReceived_event h r q
    have taken : exec (.receiveHold h r q) s = .next ((u.begin.holdReceived h r q).finish (s.validFrame h) none) := by
      rw [takes.exec (c := .receiveHold h r q) rfl rfl]
      show Host.Outcome.next ((s.validFrame h).takeHold h r q) = _
      rw [State.takeHold_eq, noPurge.rosterOther]
    have entries (r' : Resource) := Take.holdReceived_view (k := u.begin) (h := h) (r := r) (q := q)
      ((congrArg List.length view).trans size) r'
    have notices := Take.finish_notices (event.notices.trans (State.heard_notices (Member.restartByHold r))) none
    rw [Take.holdReceived_conflicts] at notices
    have viewed : u.begin.state.view = s.view := view
    rw [viewed] at notices
    refine ⟨_, taken, ((takes.took_heard _).event event takes.idle).finish _ _, State.heard_roster (Member.restartByHold r),
      State.heard_table (Member.restartByHold r), State.heard_answers (Member.restartByHold r),
      State.heard_scheduler (Member.restartByHold r), fun r' ne => ?_, ?_, notices⟩
    · refine (entries r').trans ?_
      rw [if_neg ne, viewed]
    · refine (entries r).trans ?_
      rw [if_pos rfl, viewed]
  · exact if_pos same
  · simp [ViewEntry.add, other]
  · exact if_pos same
  · simp [ViewEntry.add, other, same]
  · simp [Holder.same]
  · simp [Holder.isPeer]
  · simp [Holder.isStale]
  all_goals simp [ViewEntry.drop, ha, hb]

end Sys2Proof.Machine

/-! PROOFS. A received FREE of the incarnation that the roster holds, or of a non-member (R16 to R18, R43, R47, R103). -/

namespace Sys2Proof.Machine

/-! ## What the Answer Unit does -/

section

variable (s : State) (h : Header) (r : Resource)

/-- R47: the entry after its station's FREE. -/
def ClaimEntry.freedBy (x : Station) (member : Bool) (e : ClaimEntry) : ClaimEntry :=
  if member then { e with waiters := e.waiters.filter fun w => w.station != x } else e

theorem State.answerFree_entry? (r' : Resource) : (s.answerFree h r).entry? r' =
    if r' = r then (s.entry? r).map (ClaimEntry.freedBy h.source (s.isMember h.source h.incarnation)) else s.entry? r' := by
  unfold State.answerFree
  by_cases member : s.isMember h.source h.incarnation = true
  · rw [if_pos member, State.entry?_modifyEntry _ _ _ _ fun _ => by rfl]
    by_cases hr : r' = r
    · subst r'
      rw [if_pos rfl, if_pos rfl, member]
      rfl
    · rw [if_neg hr, if_neg hr]
      rfl
  · rw [if_neg member]
    by_cases hr : r' = r
    · subst r'
      cases he : s.entry? r <;> simp [ClaimEntry.freedBy, member]
    · rw [if_neg hr]

theorem State.answerFree_answers : (s.answerFree h r).answers =
    if s.isMember h.source h.incarnation then s.answers.filter (fun g => !(g.target == h.source && g.resource == r))
    else s.answers := by
  unfold State.answerFree
  split <;> rfl

theorem State.answerFree_scheduler : (s.answerFree h r).scheduler = s.scheduler := by
  unfold State.answerFree
  split <;> rfl

theorem State.answerFree_view : (s.answerFree h r).view = s.view := by
  unfold State.answerFree
  split <;> rfl

theorem State.answerFree_roster : (s.answerFree h r).roster = s.roster := by
  unfold State.answerFree
  split <;> rfl

/-- The roster's event leaves who is a member with what incarnation. -/
theorem State.heard_isMember (x : Station) (i : Incarnation) : (s.heard h Member.restart).isMember x i = s.isMember x i := by
  rw [State.isMember, State.isMember, State.heard_member? fun _ => by rfl]
  cases s.member? x with
  | none => rfl
  | some m => by_cases hs : m.station = h.source <;> simp [hs, Member.restart]

end

/-! ## What the view does -/

section

variable {k : Take} {h : Header} {r : Resource}

theorem Take.freeViewed_length : (k.freeViewed h r).state.view.length = k.state.view.length :=
  (List.length_set ..).trans (dropEverywhere_length _ _)

/-- R98, R103: the incarnation sweep, and the drop of the source's hold on the resource. -/
theorem Take.freeViewed_view (size : k.state.view.length = 256) (r' : Resource) :
    viewAt (k.freeViewed h r).state.view r' =
      if r' = r then ((viewAt k.state.view r).drop (Holder.isStale h.source h.incarnation)).drop (Holder.isPeer h.source)
      else (viewAt k.state.view r').drop (Holder.isStale h.source h.incarnation) := by
  have swept (x : Resource) : viewAt (k.sweep h).state.view x =
      (viewAt k.state.view x).drop (Holder.isStale h.source h.incarnation) := viewAt_dropEverywhere _ _ _
  have sweptSize : (k.sweep h).state.view.length = 256 := (dropEverywhere_length _ _).trans size
  show viewAt ((k.sweep h).state.view.set r.val _) r' = _
  rw [viewAt_set _ _ _ _ sweptSize, swept, swept]

end

/-! ## The parts of a FREE -/

section

variable {k : Take} {h : Header} {r : Resource}

/-- The answer that a FREE counts leaves who is a member. -/
theorem Take.freeAnswered_isMember : ((k.freeViewed h r).answered r h.source).state.isMember h.source h.incarnation =
    k.state.isMember h.source h.incarnation := by
  rw [State.isMember, State.member?, ((k.freeViewed h r).answered_base r h.source).roster]
  rfl

theorem Take.freeReceived_roster : (k.freeReceived h r).state.roster = k.state.roster :=
  (State.answerFree_roster _ h r).trans ((k.freeViewed h r).answered_base r h.source).roster

theorem Take.freeReceived_entry? (r' : Resource) : (k.freeReceived h r).state.entry? r' =
    if r' = r then (((k.freeViewed h r).answered r h.source).state.entry? r).map
      (ClaimEntry.freedBy h.source (k.state.isMember h.source h.incarnation))
    else ((k.freeViewed h r).answered r h.source).state.entry? r' :=
  (State.answerFree_entry? _ h r r').trans (by rw [Take.freeAnswered_isMember])

theorem Take.freeReceived_answers : (k.freeReceived h r).state.answers =
    if k.state.isMember h.source h.incarnation then
      ((k.freeViewed h r).answered r h.source).state.answers.filter (fun g => !(g.target == h.source && g.resource == r))
    else ((k.freeViewed h r).answered r h.source).state.answers :=
  (State.answerFree_answers _ h r).trans (by rw [Take.freeAnswered_isMember])

/-- What a FREE leaves when it is no last answer. -/
structure Take.FreeQuiet (k : Take) (h : Header) (r : Resource) : Prop where
  answers : (k.freeReceived h r).state.answers = if k.state.isMember h.source h.incarnation then
    k.state.answers.filter (fun g => !(g.target == h.source && g.resource == r)) else k.state.answers
  scheduler : (k.freeReceived h r).state.scheduler = k.state.scheduler
  granted : (k.freeReceived h r).granted = k.granted
  conflicts : (k.freeReceived h r).conflicts = k.conflicts
  view : (k.freeReceived h r).state.view = (k.freeViewed h r).state.view

/-- What a FREE that is the last answer leaves. -/
structure Take.FreeLast (k : Take) (h : Header) (r : Resource) (e : ClaimEntry) : Prop where
  answers : (k.freeReceived h r).state.answers = k.state.answers.filter (fun g => g.resource != r)
  scheduler : (k.freeReceived h r).state.scheduler =
    { k.state.scheduler with order := k.state.scheduler.order.filter (· != .entry r) ++ [.entry r] }
  granted : (k.freeReceived h r).granted = insertResource r k.granted
  conflicts : (k.freeReceived h r).conflicts =
    if ((viewAt (k.freeViewed h r).state.view r).add (.own e.seq)).2 then insertResource r k.conflicts else k.conflicts
  view : (k.freeReceived h r).state.view =
    (k.freeViewed h r).state.view.set r.val ((viewAt (k.freeViewed h r).state.view r).add (.own e.seq)).1

/-- A FREE that no entry counts as its answer. -/
theorem Take.freeReceived_unmet (unmet : ∀ e, k.state.entry? r = some e → ¬ e.AwaitsAnswer h.source) :
    k.FreeQuiet h r ∧ ∀ r', (k.freeReceived h r).state.entry? r' =
      if r' = r then (k.state.entry? r).map (ClaimEntry.freedBy h.source (k.state.isMember h.source h.incarnation))
      else k.state.entry? r' := by
  have same : (k.freeViewed h r).answered r h.source = k.freeViewed h r := Take.answered_of_not unmet
  refine ⟨⟨?_, ?_, ?_, ?_, ?_⟩, fun r' => ?_⟩
  · rw [Take.freeReceived_answers, same]
    rfl
  · exact (State.answerFree_scheduler _ h r).trans (by rw [same]; rfl)
  · show ((k.freeViewed h r).answered r h.source).granted = _
    rw [same]
    rfl
  · show ((k.freeViewed h r).answered r h.source).conflicts = _
    rw [same]
    rfl
  · exact (State.answerFree_view _ h r).trans (by rw [same])
  · rw [Take.freeReceived_entry?, same]
    rfl

section

variable {e : ClaimEntry} (he : k.state.entry? r = some e) (awaits : e.AwaitsAnswer h.source)

include he awaits

theorem Take.freeReceived_counted (r' : Resource) : (k.freeReceived h r).state.entry? r' =
    if r' = r then some ((e.countAnswer h.source).freedBy h.source (k.state.isMember h.source h.incarnation))
    else k.state.entry? r' := by
  obtain ⟨entries, -, -⟩ := Take.answered_awaited (k := k.freeViewed h r) he awaits
  rw [Take.freeReceived_entry?, entries, entries]
  by_cases hr : r' = r
  · rw [if_pos hr, if_pos hr, if_pos rfl]
    rfl
  · rw [if_neg hr, if_neg hr, if_neg hr]
    rfl

theorem Take.freeReceived_more (others : e.awaiting.filter (· != h.source) ≠ []) : k.FreeQuiet h r := by
  obtain ⟨-, more, -⟩ := Take.answered_awaited (k := k.freeViewed h r) he awaits
  obtain ⟨events, -⟩ := Take.answered_events (k := k.freeViewed h r) he awaits
  obtain ⟨answers, scheduler, view⟩ := more others
  obtain ⟨granted, conflicts⟩ := events others
  refine ⟨?_, (State.answerFree_scheduler _ h r).trans scheduler, granted, conflicts, (State.answerFree_view _ h r).trans view⟩
  rw [Take.freeReceived_answers, answers]
  rfl

theorem Take.freeReceived_last (last : e.awaiting.filter (· != h.source) = []) : k.FreeLast h r e := by
  obtain ⟨-, -, held⟩ := Take.answered_awaited (k := k.freeViewed h r) he awaits
  obtain ⟨-, events⟩ := Take.answered_events (k := k.freeViewed h r) he awaits
  obtain ⟨answers, scheduler, view⟩ := held last
  obtain ⟨granted, conflicts⟩ := events last
  refine ⟨?_, (State.answerFree_scheduler _ h r).trans scheduler, granted, conflicts, (State.answerFree_view _ h r).trans view⟩
  have absorbed : (k.state.answers.filter fun g => !(g.target == h.source && g.resource == r) && g.resource != r) =
      k.state.answers.filter fun g => g.resource != r :=
    List.filter_congr fun g _ => by by_cases hg : g.resource = r <;> simp [hg]
  have before : (k.freeViewed h r).state.answers = k.state.answers := rfl
  rw [Take.freeReceived_answers, answers, List.filter_filter, before, absorbed, ite_self]

end

/-- R98: a FREE reaches the other view entries by its incarnation sweep alone. -/
theorem Take.freeReceived_viewAt_other (size : k.state.view.length = 256) {r' : Resource} (ne : r' ≠ r) :
    viewAt (k.freeReceived h r).state.view r' = (viewAt k.state.view r').drop (Holder.isStale h.source h.incarnation) := by
  have dropped := (Take.freeViewed_view (k := k) (h := h) (r := r) size r').trans (if_neg ne)
  by_cases awaited : ∃ e, k.state.entry? r = some e ∧ e.AwaitsAnswer h.source
  · obtain ⟨e, he, awaits⟩ := awaited
    by_cases last : e.awaiting.filter (· != h.source) = []
    · rw [(Take.freeReceived_last he awaits last).view, viewAt_set _ _ _ _ (Take.freeViewed_length.trans size), if_neg ne, dropped]
    · rw [(Take.freeReceived_more he awaits last).view, dropped]
  · rw [(Take.freeReceived_unmet fun e he awaits => awaited ⟨e, he, awaits⟩).1.view, dropped]

end

/-! ## FREE -/

/-- Settles O27: the view drops the hold, then the answer is counted, then the Answer Unit takes the FREE. -/
theorem freeReceivedAnswersAndReleases : Obligations.FreeReceivedAnswersAndReleases := by
  intro h r q reason s takes noPurge size
  let k : Take := (s.heard h Member.restart).begin
  have taken : exec (.receiveFree h r q reason) s = .next ((k.freeReceived h r).finish (s.validFrame h) none) := by
    rw [takes.exec (c := .receiveFree h r q reason) rfl rfl]
    show Host.Outcome.next ((s.validFrame h).takeFree h r) = _
    rw [State.takeFree_eq, noPurge.rosterOther]
  have event := k.freeReceived_event h r
  have notices := Take.finish_notices (event.notices.trans (State.heard_notices Member.restart)) none
  have view : k.state.view = s.view := State.heard_view Member.restart
  have size' : k.state.view.length = 256 := (congrArg List.length view).trans size
  have answers : k.state.answers = s.answers := State.heard_answers Member.restart
  have scheduler : k.state.scheduler = s.scheduler := State.heard_scheduler Member.restart
  have member : k.state.isMember h.source h.incarnation = s.isMember h.source h.incarnation := s.heard_isMember h _ _
  have entry (x : Resource) : k.state.entry? x = s.entry? x := State.heard_entry? Member.restart x
  have dropped := (Take.freeViewed_view (k := k) (h := h) (r := r) size' r).trans (if_pos rfl)
  rw [view] at dropped
  have others (r' : Resource) (ne : r' ≠ r) : viewAt (k.freeReceived h r).state.view r' =
      (viewAt s.view r').drop (Holder.isStale h.source h.incarnation) := by
    rw [Take.freeReceived_viewAt_other size' ne, view]
  have quiet (free : k.FreeQuiet h r) :
      (k.freeReceived h r).state.answers = (if s.isMember h.source h.incarnation then
          s.answers.filter (fun g => !(g.target == h.source && g.resource == r)) else s.answers)
        ∧ (k.freeReceived h r).state.scheduler = s.scheduler
        ∧ ((k.freeReceived h r).finish (s.validFrame h) none).notices =
          (viewNotices [] s.viewWatch 0 s.view (k.freeReceived h r).state.view).foldl NoticeQueue.give s.countValid.notices
        ∧ viewAt (k.freeReceived h r).state.view r =
          ((viewAt s.view r).drop (Holder.isStale h.source h.incarnation)).drop (Holder.isPeer h.source) := by
    refine ⟨by rw [free.answers, member, answers], by rw [free.scheduler, scheduler], ?_, by rw [free.view, dropped]⟩
    rw [notices, free.granted, free.conflicts]
    rfl
  refine ⟨_, taken, ((takes.took_heard _).event event takes.idle).finish _ _,
    Take.freeReceived_roster.trans State.heard_restart_roster, ?_⟩
  by_cases awaited : ∃ e, s.entry? r = some e ∧ e.AwaitsAnswer h.source
  · obtain ⟨e, he, awaits⟩ := awaited
    have he' : k.state.entry? r = some e := (entry r).trans he
    have entries := Take.freeReceived_counted he' awaits
    rw [member] at entries
    refine ⟨fun r' ne => ⟨others r' ne, ((entries r').trans (if_neg ne)).trans (entry r')⟩,
      fun fresh => (nomatch he.symm.trans fresh), fun e' same => ?_⟩
    obtain rfl := Option.some.inj (he.symm.trans same)
    have here := (entries r).trans (if_pos rfl)
    refine ⟨fun others => ?_, fun _ last => ?_⟩
    · have more := others.resolve_left fun not => not awaits
      obtain ⟨queue, slots, given, seen⟩ := quiet (Take.freeReceived_more he' awaits more)
      exact ⟨queue, slots, given, seen, fun not => absurd awaits not, fun _ => here⟩
    · have free := Take.freeReceived_last he' awaits last
      refine ⟨here, by rw [Take.finish_answers, free.answers, answers], by rw [Take.finish_scheduler, free.scheduler, scheduler],
        ?_, ?_⟩
      · rw [Take.finish_view, free.view, viewAt_set _ _ _ _ (Take.freeViewed_length.trans size'), if_pos rfl, dropped]
      · rw [notices, free.granted, free.conflicts, dropped]
        rfl
  · obtain ⟨free, entries⟩ := Take.freeReceived_unmet (k := k) (h := h) (r := r)
      fun e he awaits => awaited ⟨e, (entry r).symm.trans he, awaits⟩
    rw [member] at entries
    obtain ⟨queue, slots, given, seen⟩ := quiet free
    have here : (k.freeReceived h r).state.entry? r = _ := (entries r).trans (if_pos rfl)
    rw [entry] at here
    exact ⟨fun r' ne => ⟨others r' ne, ((entries r').trans (if_neg ne)).trans (entry r')⟩,
      fun fresh => ⟨here.trans (by rw [fresh]; rfl), queue, slots, given, seen⟩,
      fun e he => ⟨fun _ => ⟨queue, slots, given, seen, fun _ => here.trans (by rw [he]; rfl),
        fun awaits => absurd ⟨e, he, awaits⟩ awaited⟩, fun awaits => absurd ⟨e, he, awaits⟩ awaited⟩⟩

end Sys2Proof.Machine

/-! PROOFS. A purge reaches every block (R30, R44, R45, R62, R100, R105, R127). -/

namespace Sys2Proof.Machine

/-! ## Ordered lists and the line -/

/-- What is put after all others joins at the end. -/
theorem insertAsc_last {α : Type} {key : α → Nat} {x : α} {l : List α} (above : ∀ y ∈ l, key y < key x) :
    insertAsc key x l = l ++ [x] := by
  induction l with
  | nil => rfl
  | cons y ys ih =>
    have hy := above y (List.mem_cons_self ..)
    rw [insertAsc, if_neg (by omega), if_neg (by omega), ih fun z hz => above z (List.mem_cons_of_mem _ hz)]
    rfl

theorem mem_insertResource_iff {r x : Resource} {l : List Resource} : x ∈ insertResource r l ↔ x = r ∨ x ∈ l := by
  constructor
  · exact mem_insertAsc _ _ _ _
  · rintro (rfl | mem)
    · exact self_mem_insertAsc _ _ _
    · by_cases hx : x = r
      · rw [hx]
        exact self_mem_insertAsc _ _ _
      · exact mem_insertAsc_of_mem _ _ _ _ mem fun same => hx (Fin.ext same)

/-- R95: a frame that has run out stays so; whose frame it is does not change by that. -/
theorem LineInterface.cutLoose_grants (l : LineInterface) (p q : GrantItem → Bool) :
    (l.cutLoose fun f => f.grantItem?.any p).cutLoose (fun f => f.grantItem?.any q) =
      l.cutLoose fun f => f.grantItem?.any fun g => p g || q g := by
  have item (f : SentFrame) : ({ f with live := false } : SentFrame).grantItem? = f.grantItem? := rfl
  have each (f : SentFrame) :
      (fun f : SentFrame => if f.grantItem?.any q then { f with live := false } else f)
          (if f.grantItem?.any p then { f with live := false } else f) =
        if f.grantItem?.any fun g => p g || q g then { f with live := false } else f := by
    cases hg : f.grantItem? with
    | none => simp [hg]
    | some g => cases hp : p g <;> cases hq : q g <;> simp [hg, item, hp, hq]
  unfold LineInterface.cutLoose
  rw [Option.map_map]
  exact congrArg (fun m => { l with onLine := Option.map m l.onLine }) (funext each)

theorem LineInterface.cutLoose_of_not {p : SentFrame → Bool} (stands : ∀ f, p f = false) (l : LineInterface) :
    l.cutLoose p = l := by
  simp [LineInterface.cutLoose, stands]

theorem placedLast_cons {order : List SlotName} {r : Resource} {l : List Resource} (new : r ∉ l) :
    placedLast (order.filter (· != .entry r) ++ [.entry r]) l = placedLast order (r :: l) := by
  simp only [placedLast, List.filter_append, List.filter_filter, List.map_cons, List.append_assoc, List.contains_cons]
  congr 1
  · exact List.filter_congr fun n _ => by rw [Bool.not_or, Bool.and_comm]; rfl
  · rw [List.filter_cons_of_pos (by simpa using new)]
    rfl

@[simp] theorem placedLast_nil (order : List SlotName) : placedLast order [] = order := by simp [placedLast]

theorem view_ext {v : List ViewEntry} {f : Resource → ViewEntry} (size : v.length = 256) (each : ∀ r, viewAt v r = f r) :
    v = (List.finRange 256).map f := by
  refine List.ext_getElem (by simp [size]) fun i hi _ => ?_
  have here := each ⟨i, size ▸ hi⟩
  rw [viewAt, List.getD_eq_getElem _ _ hi] at here
  rw [here]
  simp

/-! ## Several moves to HELD, one after another -/

/-- R100: the own hold added to the view entry of an own entry's resource. -/
def Take.ownAdded (k : Take) (r : Resource) : ViewEntry × Bool :=
  match k.state.entry? r with
  | some e => (viewAt k.state.view r).add (.own e.seq)
  | none => (viewAt k.state.view r, false)

theorem Take.ownAdded_eq {k : Take} {r : Resource} {e : ClaimEntry} (he : k.state.entry? r = some e) :
    k.ownAdded r = (viewAt k.state.view r).add (.own e.seq) := by rw [Take.ownAdded, he]

/-- The entries of the resources are ready for their moves. -/
def Take.AllReady (k : Take) (l : List Resource) : Prop :=
  ∀ r ∈ l, ∃ e, k.state.entry? r = some e ∧ e.readyToHold = true

/-- What the moves to HELD of ready entries leave. -/
structure Take.HeldAll (k : Take) (l : List Resource) (t : Take) : Prop where
  answers : t.state.answers = k.state.answers.filter fun g => !l.contains g.resource
  scheduler : t.state.scheduler = { k.state.scheduler with order := placedLast k.state.scheduler.order l }
  line : t.state.line = k.state.line.cutLoose fun f => f.grantItem?.any fun g => l.contains g.resource
  size : t.state.view.length = k.state.view.length
  view : k.state.view.length = 256 → ∀ r, viewAt t.state.view r = if r ∈ l then (k.ownAdded r).1 else viewAt k.state.view r
  granted : Ascending Fin.val (k.granted ++ l) → t.granted = k.granted ++ l
  conflicts : k.state.view.length = 256 →
    ∀ r, r ∈ t.conflicts ↔ r ∈ k.conflicts ∨ r ∈ l ∧ (k.ownAdded r).2 = true

theorem Take.moveToHeld_line {k : Take} {r : Resource} {e : ClaimEntry} (he : k.state.entry? r = some e)
    (hr : e.readyToHold = true) :
    (k.moveToHeld r).state.line = k.state.line.cutLoose fun f => f.grantItem?.any (·.resource == r) := by
  simp only [Take.moveToHeld, he, hr, if_true]
  rfl

theorem Take.heldAll {l : List Resource} {k : Take} (nodup : l.Nodup) (ready : k.AllReady l) :
    k.HeldAll l (l.foldl Take.moveToHeld k) := by
  induction l generalizing k with
  | nil =>
    refine ⟨by simp, by simp, (LineInterface.cutLoose_of_not (fun f => ?_) _).symm, rfl, fun _ r => by simp,
      fun _ => (List.append_nil _).symm, fun _ r => by simp⟩
    cases f.grantItem? <;> rfl
  | cons r l ih =>
    obtain ⟨new, nodup⟩ := List.nodup_cons.mp nodup
    obtain ⟨e, he, hr⟩ := ready r (List.mem_cons_self ..)
    obtain ⟨-, -, answers, scheduler, view⟩ := Take.moveToHeld_ready he hr
    obtain ⟨granted, conflicts⟩ := Take.moveToHeld_events he hr
    have others : (k.moveToHeld r).AllReady l := fun r' mem => by
      have ne : r' ≠ r := fun same => new (same ▸ mem)
      rw [Take.entry?_moveToHeld_other k ne]
      exact ready r' (List.mem_cons_of_mem _ mem)
    obtain ⟨ihAnswers, ihScheduler, ihLine, ihSize, ihView, ihGranted, ihConflicts⟩ := ih nodup others
    have added : k.ownAdded r = (viewAt k.state.view r).add (.own e.seq) := Take.ownAdded_eq he
    have kept (size : k.state.view.length = 256) {r' : Resource} (ne : r' ≠ r) :
        viewAt (k.moveToHeld r).state.view r' = viewAt k.state.view r' := by
      rw [view, viewAt_set _ _ _ _ size, if_neg ne]
    have addedLater (size : k.state.view.length = 256) {r' : Resource} (ne : r' ≠ r) :
        (k.moveToHeld r).ownAdded r' = k.ownAdded r' := by
      rw [Take.ownAdded, Take.ownAdded, Take.entry?_moveToHeld_other k ne, kept size ne]
    have sameSize : (k.moveToHeld r).state.view.length = k.state.view.length := by rw [view, List.length_set]
    refine ⟨?_, ?_, ?_, ihSize.trans sameSize, fun size r' => ?_, fun ascends => ?_, fun size r' => ?_⟩
    · rw [List.foldl_cons, ihAnswers, answers, List.filter_filter]
      exact List.filter_congr fun g _ => by rw [List.contains_cons, Bool.not_or, Bool.and_comm]; rfl
    · rw [List.foldl_cons, ihScheduler, scheduler]
      exact congrArg (fun o => { k.state.scheduler with order := o }) (placedLast_cons new)
    · rw [List.foldl_cons, ihLine, Take.moveToHeld_line he hr, LineInterface.cutLoose_grants]
      simp only [List.contains_cons]
    · rw [List.foldl_cons, ihView (sameSize.trans size)]
      by_cases hr' : r' = r
      · subst r'
        rw [if_neg new, if_pos (List.mem_cons_self ..), view, viewAt_set _ _ _ _ size, if_pos rfl, added]
      · rw [addedLater size hr', kept size hr']
        simp only [List.mem_cons, hr', false_or]
    · have last : insertResource r k.granted = k.granted ++ [r] := insertAsc_last fun y hy =>
        (List.pairwise_append.mp ascends).2.2 y hy r (List.mem_cons_self ..)
      rw [last] at granted
      rw [List.foldl_cons, ihGranted (by rw [granted, List.append_assoc]; exact ascends), granted, List.append_assoc]
      rfl
    · rw [List.foldl_cons, ihConflicts (sameSize.trans size), conflicts, ← added, List.mem_cons]
      by_cases hr' : r' = r
      · rw [hr']
        by_cases beside : (k.ownAdded r).2 = true <;> simp [beside, new, mem_insertResource_iff]
      · rw [addedLater size hr']
        by_cases beside : (k.ownAdded r).2 = true <;> simp [beside, hr', mem_insertResource_iff]

/-! ## A purge -/

theorem ClaimEntry.purged_resource (x : Station) (e : ClaimEntry) : (e.purged x).resource = e.resource := by
  unfold ClaimEntry.purged
  dsimp only
  split
  · exact ClaimEntry.countAnswer_resource _ _
  · rfl

/-- R62: a purge before the moves to HELD that it brings. -/
def State.purgeBegun (s : State) (x : Station) : Take :=
  (State.begin (State.withdrawGrants { s with
    roster := s.roster.filter fun m => m.station != x
    claims := { s.claims with table := s.claims.table.map (ClaimEntry.purge x) } } (·.target == x))).dropHolders
      (Holder.isPeer x)

theorem State.purge_eq (s : State) (x : Station) :
    s.begin.purge x = (s.completedBy x).foldl Take.moveToHeld (s.purgeBegun x) := by
  have done : (s.claims.table.filter (ClaimEntry.completedByPurge x)).map (·.resource) = s.completedBy x := by
    refine congrArg (List.map _) (List.filter_congr fun e _ => ?_)
    rw [Bool.eq_iff_iff, ClaimEntry.completedByPurge_iff, decide_eq_true_eq]
  rw [← done]
  rfl

theorem State.purgeBegun_entry? (s : State) (x : Station) (r : Resource) :
    (s.purgeBegun x).state.entry? r = (s.entry? r).map (ClaimEntry.purge x) :=
  State.entry?_map (f := ClaimEntry.purge x) rfl (fun _ => by rfl) r

theorem State.purgeBegun_view (s : State) (x : Station) (r : Resource) :
    viewAt (s.purgeBegun x).state.view r = (viewAt s.view r).drop (Holder.isPeer x) := viewAt_dropEverywhere _ _ _

theorem State.purgeBegun_added {s : State} (x : Station) {r : Resource} {e : ClaimEntry} (he : s.entry? r = some e) :
    (s.purgeBegun x).ownAdded r = ((viewAt s.view r).drop (Holder.isPeer x)).add (.own e.seq) := by
  rw [Take.ownAdded_eq (e := e.purge x) (by rw [State.purgeBegun_entry?, he]; rfl), State.purgeBegun_view]
  rfl

section

variable {s : State} (keyed : s.Keyed) (x : Station)

include keyed

theorem State.mem_completedBy {r : Resource} : r ∈ s.completedBy x ↔ ∃ e, s.entry? r = some e ∧ e.LastAnswer x := by
  constructor
  · intro mem
    obtain ⟨e, he, hr⟩ := List.mem_map.mp mem
    obtain ⟨mem, last⟩ := List.mem_filter.mp he
    exact ⟨e, keyed.entry?_eq_some.mpr ⟨mem, hr⟩, of_decide_eq_true last⟩
  · rintro ⟨e, he, last⟩
    obtain ⟨mem, hr⟩ := keyed.entry?_eq_some.mp he
    exact List.mem_map.mpr ⟨e, List.mem_filter.mpr ⟨mem, decide_eq_true last⟩, hr⟩

theorem State.completedBy_ascends : Ascending Fin.val (s.completedBy x) :=
  List.pairwise_map.mpr (List.Pairwise.filter _ keyed)

theorem State.purge_heldAll : (s.purgeBegun x).HeldAll (s.completedBy x) (s.begin.purge x) := by
  rw [State.purge_eq]
  refine Take.heldAll (keyed.nodup _) fun r mem => ?_
  obtain ⟨e, he, last⟩ := (State.mem_completedBy keyed x).mp mem
  refine ⟨e.purge x, by rw [State.purgeBegun_entry?, he]; rfl, ?_⟩
  exact ((Bool.and_eq_true _ _).mp (ClaimEntry.completedByPurge_iff.mpr last)).2

theorem State.purge_entry? (r : Resource) : (s.begin.purge x).state.entry? r = (s.entry? r).map (ClaimEntry.purged x) :=
  State.entry?_map (Take.purge_table keyed x) (ClaimEntry.purged_resource x) r

/-- R44, R45: the answer queue after a purge. -/
theorem State.purge_answers : (s.begin.purge x).state.answers = s.purgedAnswers x := by
  rw [(State.purge_heldAll keyed x).answers]
  refine (List.filter_filter ..).trans (List.filter_congr fun g _ => ?_)
  rw [Bool.and_comm]
  rfl

theorem State.purge_line : (s.begin.purge x).state.line =
    s.line.cutLoose fun f => f.grantItem?.any fun g => g.target == x || (s.completedBy x).contains g.resource := by
  rw [(State.purge_heldAll keyed x).line]
  exact s.line.cutLoose_grants _ _

theorem State.purge_scheduler : (s.begin.purge x).state.scheduler =
    { s.scheduler with order := placedLast s.scheduler.order (s.completedBy x) } := (State.purge_heldAll keyed x).scheduler

theorem State.purge_granted : (s.begin.purge x).granted = s.completedBy x :=
  (State.purge_heldAll keyed x).granted (State.completedBy_ascends keyed x)

/-- R100, R105: a view entry after a purge. -/
theorem State.purge_viewAt (size : s.view.length = 256) (r : Resource) :
    viewAt (s.begin.purge x).state.view r = s.purgedEntry x r := by
  rw [(State.purge_heldAll keyed x).view ((dropEverywhere_length _ _).trans size)]
  by_cases done : r ∈ s.completedBy x
  · obtain ⟨e, he, last⟩ := (State.mem_completedBy keyed x).mp done
    rw [if_pos done, State.purgeBegun_added x he, State.purgedEntry, he]
    exact (if_pos last).symm
  · rw [if_neg done, State.purgeBegun_view, State.purgedEntry]
    cases he : s.entry? r with
    | none => rfl
    | some e => exact (if_neg fun last => done ((State.mem_completedBy keyed x).mpr ⟨e, he, last⟩)).symm

theorem State.purge_view (size : s.view.length = 256) : (s.begin.purge x).state.view = s.purgedView x :=
  view_ext ((State.purge_heldAll keyed x).size.trans ((dropEverywhere_length _ _).trans size)) (State.purge_viewAt keyed x size)

theorem State.mem_purgeConflicts {r : Resource} : r ∈ s.purgeConflicts x ↔
    ∃ e, s.entry? r = some e ∧ e.LastAnswer x ∧ (((viewAt s.view r).drop (Holder.isPeer x)).add (.own e.seq)).2 = true := by
  constructor
  · intro mem
    obtain ⟨e, he, rfl⟩ := List.mem_map.mp mem
    obtain ⟨mem, both⟩ := List.mem_filter.mp he
    obtain ⟨last, beside⟩ := (Bool.and_eq_true _ _).mp both
    exact ⟨e, keyed.entry?_of_mem mem, of_decide_eq_true last, beside⟩
  · rintro ⟨e, he, last, beside⟩
    obtain ⟨mem, rfl⟩ := keyed.entry?_eq_some.mp he
    exact List.mem_map.mpr ⟨e, List.mem_filter.mpr ⟨mem, (Bool.and_eq_true _ _).mpr ⟨decide_eq_true last, beside⟩⟩, rfl⟩

theorem State.purge_conflicts (size : s.view.length = 256) (r : Resource) :
    r ∈ (s.begin.purge x).conflicts ↔ r ∈ s.purgeConflicts x := by
  rw [(State.purge_heldAll keyed x).conflicts ((dropEverywhere_length _ _).trans size), State.mem_completedBy keyed,
    State.mem_purgeConflicts keyed]
  constructor
  · rintro (mem | ⟨⟨e, he, last⟩, beside⟩)
    · cases mem
    · exact ⟨e, he, last, State.purgeBegun_added x he ▸ beside⟩
  · rintro ⟨e, he, last, beside⟩
    exact .inr ⟨⟨e, he, last⟩, by rw [State.purgeBegun_added x he]; exact beside⟩

end

/-- R44, R45, R95: whose frame on the line a purge cuts loose. -/
theorem LineInterface.cutLoose_purged (l : LineInterface) (x : Station) (done : List Resource) :
    (l.cutLoose fun f => f.grantItem?.any fun g => g.target == x || done.contains g.resource) =
      { l with onLine := l.onLine.map fun f =>
        match f.frame.body with
        | .grant y r _ => if y = x ∨ r ∈ done then { f with live := false } else f
        | .presence _ | .claim _ _ _ | .hold _ _ | .free _ _ _ | .withdraw => f } := by
  refine congrArg (fun m => { l with onLine := Option.map m l.onLine }) (funext fun f => ?_)
  cases body : f.frame.body <;> simp [SentFrame.grantItem?, body]

/-- Settles O28: the moves to HELD are taken one after another on what the purge has dropped. -/
theorem purgeReachesEveryBlock : Obligations.PurgeReachesEveryBlock := by
  refine ⟨fun x s lawful size => ?_, fun k before peer => by rw [Take.finish, State.giveAll, List.append_assoc]⟩
  have keyed := lawful.keyed
  have event := s.begin.purge_event x
  have completed (r : Resource) := State.mem_completedBy keyed x (r := r)
  have viewed (r : Resource) := State.purge_viewAt keyed x size r
  refine ⟨Take.purge_roster _ _, fun g => ?_, fun r fresh => ⟨by rw [State.purge_entry? keyed, fresh]; rfl, ?_⟩,
    fun r e he => ⟨fun awaits => ?_, fun not => ?_, fun last => ?_, fun not => ?_⟩, event.clock, event.seq, event.session,
    event.standing, event.link, event.notices, event.pending, Take.purge_table keyed x, State.purge_answers keyed x, ?_,
    State.purge_view keyed x size, State.purge_scheduler keyed x, State.purge_granted keyed x, ?_, fun r => ?_,
    State.purge_conflicts keyed x size⟩
  · rw [State.purge_answers keyed, State.purgedAnswers, List.mem_filter, Bool.and_eq_true, bne_iff_ne, Bool.not_eq_true',
      ← Bool.not_eq_true, List.contains_iff_mem, completed]
    simp only [not_exists, not_and]
  · rw [viewed, State.purgedEntry, fresh]
  · rw [State.purge_entry? keyed, he, Option.map_some, ClaimEntry.purged, if_pos awaits]
  · rw [State.purge_entry? keyed, he, Option.map_some, ClaimEntry.purged, if_neg not]
  · rw [viewed, State.purgedEntry, he]
    exact if_pos last
  · rw [viewed, State.purgedEntry, he]
    exact if_neg not
  · rw [State.purge_line keyed]
    exact s.line.cutLoose_purged x _
  · rw [State.purge_granted keyed]
    exact State.completedBy_ascends keyed x
  · rw [State.purge_granted keyed]
    exact completed r

end Sys2Proof.Machine

/-! PROOFS. Frames that purge a member: WITHDRAW, and any frame but a PRESENCE of another incarnation (R30, R59, R61, R62). -/

namespace Sys2Proof.Machine

/-! ## A station that is nowhere in the tables -/

/-- No block names the station: what a purge leaves. -/
structure State.Gone (s : State) (x : Station) : Prop where
  roster : s.member? x = none
  answers : ∀ g ∈ s.answers, g.target ≠ x
  table : ∀ e ∈ s.claims.table, x ∉ e.awaiting ∧ ∀ w ∈ e.waiters, w.station ≠ x
  view : ∀ v ∈ s.view, v.drop (Holder.isPeer x) = v

theorem ViewEntry.drop_drop (p : Holder → Bool) (v : ViewEntry) : (v.drop p).drop p = v.drop p := by
  cases v with
  | unknown => rfl
  | free => rfl
  | held a => cases ha : p a <;> simp [ViewEntry.drop, ha]
  | contested a b => cases ha : p a <;> cases hb : p b <;> simp [ViewEntry.drop, ha, hb]

theorem ViewEntry.drop_held_eq_self {p : Holder → Bool} {a : Holder} : (ViewEntry.held a).drop p = .held a ↔ p a = false := by
  cases ha : p a <;> simp [ViewEntry.drop, ha]

theorem ViewEntry.drop_contested_eq_self {p : Holder → Bool} {a b : Holder} :
    (ViewEntry.contested a b).drop p = .contested a b ↔ p a = false ∧ p b = false := by
  cases ha : p a <;> cases hb : p b <;> simp [ViewEntry.drop, ha, hb]

/-- The own hold brings no peer into an entry. -/
theorem ViewEntry.drop_add_own {x : Station} {q : ClaimSeq} {v : ViewEntry} (gone : v.drop (Holder.isPeer x) = v) :
    ((v.add (.own q)).1).drop (Holder.isPeer x) = (v.add (.own q)).1 := by
  cases v with
  | unknown => rfl
  | free => rfl
  | held a =>
    rw [ViewEntry.drop_held_eq_self] at gone
    rw [ViewEntry.add_held]
    by_cases same : a.same (.own q) = true
    · rw [if_pos same]
      rfl
    · rw [if_neg same]
      exact ViewEntry.drop_contested_eq_self.mpr ⟨gone, rfl⟩
  | contested a b =>
    obtain ⟨first, latest⟩ := ViewEntry.drop_contested_eq_self.mp gone
    rw [ViewEntry.add_contested]
    by_cases sameFirst : a.same (.own q) = true
    · rw [if_pos sameFirst]
      exact ViewEntry.drop_contested_eq_self.mpr ⟨rfl, latest⟩
    · rw [if_neg sameFirst]
      by_cases sameLatest : b.same (.own q) = true
      · rw [if_pos sameLatest]
        exact ViewEntry.drop_contested_eq_self.mpr ⟨first, rfl⟩
      · rw [if_neg sameLatest]
        refine ViewEntry.drop_contested_eq_self.mpr ⟨?_, rfl⟩
        split
        · exact latest
        · exact first

theorem Holder.not_stale_of_not_peer {x : Station} {a : Holder} (i : Incarnation) (other : a.isPeer x = false) :
    a.isStale x i = false := by
  cases a with
  | own q => rfl
  | peer y j src => simp only [Holder.isPeer] at other; simp [Holder.isStale, other]

/-- The incarnation sweep finds nothing of a station that holds nothing. -/
theorem ViewEntry.drop_stale_of_gone {x : Station} {v : ViewEntry} (gone : v.drop (Holder.isPeer x) = v) (i : Incarnation) :
    v.drop (Holder.isStale x i) = v := by
  cases v with
  | unknown => rfl
  | free => rfl
  | held a => exact ViewEntry.drop_held_eq_self.mpr (Holder.not_stale_of_not_peer i (ViewEntry.drop_held_eq_self.mp gone))
  | contested a b =>
    obtain ⟨first, latest⟩ := ViewEntry.drop_contested_eq_self.mp gone
    exact ViewEntry.drop_contested_eq_self.mpr ⟨Holder.not_stale_of_not_peer i first, Holder.not_stale_of_not_peer i latest⟩

theorem viewAt_of_forall {P : ViewEntry → Prop} {v : List ViewEntry} (all : ∀ e ∈ v, P e) (unknown : P .unknown)
    (r : Resource) : P (viewAt v r) := by
  unfold viewAt
  by_cases inside : r.val < v.length
  · rw [List.getD_eq_getElem _ _ inside]
    exact all _ (List.getElem_mem inside)
  · rwa [List.getD_eq_default _ _ (Nat.le_of_not_lt inside)]

theorem set_viewAt (v : List ViewEntry) (r : Resource) : v.set r.val (viewAt v r) = v := by
  unfold viewAt
  by_cases inside : r.val < v.length
  · rw [List.getD_eq_getElem _ _ inside, List.set_getElem_self]
  · exact List.set_eq_of_length_le (Nat.le_of_not_lt inside)

theorem Take.gone_moveToHeld {k : Take} {x : Station} (gone : k.state.Gone x) (r : Resource) :
    (k.moveToHeld r).state.Gone x := by
  by_cases ready : ∃ e, k.state.entry? r = some e ∧ e.readyToHold = true
  · obtain ⟨e, he, hr⟩ := ready
    obtain ⟨base, table, answers, -, view⟩ := Take.moveToHeld_ready he hr
    refine ⟨by rw [State.member?, base.roster]; exact gone.roster, fun g mem => ?_, fun e mem => ?_, fun v mem => ?_⟩
    · rw [answers] at mem
      exact gone.answers g (List.mem_of_mem_filter mem)
    · rw [table] at mem
      obtain ⟨e', mem', rfl⟩ := List.mem_map.mp mem
      by_cases hr : e'.resource = r
      · simpa [hr, ClaimEntry.held] using gone.table e' mem'
      · simpa [hr] using gone.table e' mem'
    · rw [view] at mem
      obtain mem | rfl := List.mem_or_eq_of_mem_set mem
      · exact gone.view v mem
      · exact ViewEntry.drop_add_own (viewAt_of_forall gone.view rfl r)
  · rwa [Take.moveToHeld_of_not fun e he => Bool.eq_false_iff.mpr fun hr => ready ⟨e, he, hr⟩]

theorem Take.gone_foldl_moveToHeld {x : Station} (l : List Resource) {k : Take} (gone : k.state.Gone x) :
    (l.foldl Take.moveToHeld k).state.Gone x := by
  induction l generalizing k with
  | nil => exact gone
  | cons r l ih => exact ih (Take.gone_moveToHeld gone r)

/-- R30, R62: after a purge no block names the station. -/
theorem State.gone_purge (s : State) (x : Station) : (s.begin.purge x).state.Gone x := by
  rw [State.purge_eq]
  refine Take.gone_foldl_moveToHeld _ ⟨?_, fun g mem => ?_, fun e mem => ?_, fun v mem => ?_⟩
  · refine List.find?_eq_none.mpr fun m mem => ?_
    obtain ⟨-, other⟩ := List.mem_filter.mp mem
    simpa using other
  · obtain ⟨-, other⟩ := List.mem_filter.mp mem
    simpa using other
  · obtain ⟨e', -, rfl⟩ := List.mem_map.mp mem
    simp [ClaimEntry.purge]
  · obtain ⟨v', -, rfl⟩ := List.mem_map.mp mem
    exact ViewEntry.drop_drop _ _

/-! ## Frames from a station that is nowhere in the tables -/

section

variable {k : Take} {h : Header} {r : Resource} {q : ClaimSeq} (gone : k.state.Gone h.source)

include gone

theorem Take.sweep_of_gone : k.sweep h = k := by
  have view : dropEverywhere (Holder.isStale h.source h.incarnation) k.state.view = k.state.view :=
    (List.map_congr_left fun v mem => ViewEntry.drop_stale_of_gone (gone.view v mem) _).trans (List.map_id _)
  show { k with state := { k.state with view := dropEverywhere _ k.state.view } } = k
  rw [view]

theorem Take.answered_of_gone (r : Resource) : k.answered r h.source = k :=
  Take.answered_of_not fun e he awaits => (gone.table e (State.entry?_mem he)).1 awaits.2.2

theorem State.isMember_of_gone (i : Incarnation) : k.state.isMember h.source i = false := by
  rw [State.isMember, gone.roster]
  rfl

theorem Take.claimReceived_of_gone (t : Clock) : k.claimReceived h r q t = k := by
  have unanswered : ¬ k.state.answers? h r = true := by simp [State.answers?, State.isMember_of_gone gone]
  rw [Take.claimReceived, Take.on, State.answerClaim_unanswered unanswered]

theorem Take.grantReceived_of_gone (x : Station) : k.grantReceived h x r q = k := by
  rw [Take.grantReceived, Take.answered_of_gone gone, ite_self]

theorem Take.freeReceived_of_gone : k.freeReceived h r = k := by
  have view : dropAt r (Holder.isPeer h.source) k.state.view = k.state.view := by
    rw [dropAt, viewAt_of_forall gone.view rfl r, set_viewAt]
  have viewed : k.freeViewed h r = k := by
    rw [Take.freeViewed, Take.sweep_of_gone gone, Take.on, view]
  have free : k.state.answerFree h r = k.state := if_neg (by simp [State.isMember_of_gone gone])
  rw [Take.freeReceived, viewed, Take.answered_of_gone gone, Take.on, free]

theorem Take.holdReceived_of_gone :
    k.holdReceived h r q = k.addHolder r (.peer h.source h.incarnation (.hold q)) := by
  rw [Take.holdReceived, Take.sweep_of_gone gone]

end

/-! ## What the first effects of a frame leave to a purge -/

section

variable (s : State) (h : Header) (x : Station)

theorem State.validFrame_keyed {s : State} (keyed : s.Keyed) (h : Header) : (s.validFrame h).Keyed := by
  rw [State.Keyed, State.validFrame_table]
  exact keyed

@[simp] theorem State.validFrame_completedBy : (s.validFrame h).completedBy x = s.completedBy x := by
  rw [State.completedBy, State.validFrame_table]
  rfl

@[simp] theorem State.validFrame_purgedAnswers : (s.validFrame h).purgedAnswers x = s.purgedAnswers x := by
  rw [State.purgedAnswers, State.validFrame_answers, State.validFrame_completedBy]
  rfl

@[simp] theorem State.validFrame_purgedEntry (r : Resource) : (s.validFrame h).purgedEntry x r = s.purgedEntry x r := by
  rw [State.purgedEntry, State.validFrame_entry?, State.validFrame_view]
  rfl

@[simp] theorem State.validFrame_purgedView : (s.validFrame h).purgedView x = s.purgedView x :=
  List.map_congr_left fun r _ => s.validFrame_purgedEntry h x r

@[simp] theorem State.validFrame_purgeConflicts : (s.validFrame h).purgeConflicts x = s.purgeConflicts x := by
  rw [State.purgeConflicts, State.validFrame_table, State.validFrame_view]
  rfl

end

/-- What a purge that the frame brings leaves of the tables. -/
structure State.PurgedFor (s : State) (x : Station) (k : Take) : Prop where
  table : k.state.claims.table = s.claims.table.map (ClaimEntry.purged x)
  answers : k.state.answers = s.purgedAnswers x
  scheduler : k.state.scheduler = { s.scheduler with order := placedLast s.scheduler.order (s.completedBy x) }
  granted : k.granted = s.completedBy x
  view : s.view.length = 256 → k.state.view = s.purgedView x
  conflicts : s.view.length = 256 → ∀ r, r ∈ k.conflicts ↔ r ∈ s.purgeConflicts x

theorem State.purgedFor {s : State} (keyed : s.Keyed) (h : Header) (x : Station) :
    s.PurgedFor x ((s.validFrame h).begin.purge x) := by
  have keyed' := State.validFrame_keyed keyed h
  have size' (size : s.view.length = 256) : (s.validFrame h).view.length = 256 := by rw [State.validFrame_view, size]
  refine ⟨?_, ?_, ?_, ?_, fun size => ?_, fun size r => ?_⟩
  · rw [Take.purge_table keyed', State.begin_state, State.validFrame_table]
  · rw [State.purge_answers keyed', State.validFrame_purgedAnswers]
  · rw [State.purge_scheduler keyed', State.validFrame_scheduler, State.validFrame_completedBy]
  · rw [State.purge_granted keyed', State.validFrame_completedBy]
  · rw [State.purge_view keyed' x (size' size), State.validFrame_purgedView]
  · rw [State.purge_conflicts keyed' x (size' size), State.validFrame_purgeConflicts]

/-- Which entries are named as conflicts is all that counts. -/
theorem viewNotices_congr {c c' : List Resource} (same : ∀ r, r ∈ c ↔ r ∈ c') (watch : Option Groups) (n : Nat)
    (before after : List ViewEntry) : viewNotices c watch n before after = viewNotices c' watch n before after := by
  induction after generalizing n before with
  | nil => cases before <;> rfl
  | cons a after ih =>
    cases before with
    | nil => rfl
    | cons b before => simp only [viewNotices_cons, ih, entryNotices, same]

/-! ## WITHDRAW -/

/-- Settles O29. -/
theorem withdrawReceivedPurges : Obligations.WithdrawReceivedPurges := by
  intro h s takes
  have exec' : exec (.receiveWithdraw h) s = .next ((s.validFrame h).takeWithdraw h) :=
    takes.exec (c := .receiveWithdraw h) rfl rfl
  refine ⟨fun stranger => ⟨exec'.trans ?_, takes.took, s.validFrame_table h, s.validFrame_roster h, s.validFrame_answers h,
    s.validFrame_view h, s.validFrame_scheduler h⟩, fun m member => exec'.trans ?_⟩
  · have roster : (s.validFrame h).begin.rosterWithdraw h = ((s.validFrame h).begin, none) := by
      simp [Take.rosterWithdraw, stranger]
    rw [State.takeWithdraw, roster]
    exact congrArg _ (State.begin_finish_of_view rfl)
  · have roster : (s.validFrame h).begin.rosterWithdraw h = ((s.validFrame h).begin.purge h.source,
        some (.peer h.source (if m.incarnation = h.incarnation then .left else .lost) m.incarnation)) := by
      simp [Take.rosterWithdraw, member]
    rw [State.takeWithdraw, roster]

/-! ## Another incarnation -/

/-- R59: what a frame of another incarnation leaves before its notices. -/
def Take.takenAsStranger (k : Take) (f : Frame) : Take :=
  match f.body with
  | .hold r q => k.addHolder r (.peer f.header.source f.header.incarnation (.hold q))
  | .presence _ | .claim _ _ _ | .grant _ _ _ | .free _ _ _ | .withdraw => k

theorem Take.takenAsStranger_state (k : Take) (f : Frame) :
    (k.takenAsStranger f).state = { k.state with view := (k.takenAsStranger f).state.view }
      ∧ (k.takenAsStranger f).granted = k.granted := by
  unfold Take.takenAsStranger
  split <;> exact ⟨rfl, rfl⟩

theorem State.takeParts_of_other {s : State} {f : Frame} {m : Member} (other : ∀ p, f.body ≠ .presence p)
    (member : s.member? f.header.source = some m) (differs : m.incarnation ≠ f.header.incarnation) :
    s.takeParts f = ((s.begin.purge f.header.source).takenAsStranger f).finish s
      (some (.peer f.header.source .lost m.incarnation)) := by
  have gone := s.gone_purge f.header.source
  have roster (restart : Member → Member) : s.begin.rosterOther restart f.header =
      (s.begin.purge f.header.source, some (.peer f.header.source .lost m.incarnation)) :=
    Take.rosterOther_purge restart member differs
  unfold State.takeParts Take.takenAsStranger
  cases body : f.body with
  | presence p => exact absurd body (other p)
  | claim r q t =>
    dsimp only
    rw [State.takeClaim_eq, roster, Take.claimReceived_of_gone gone]
  | grant y r q =>
    dsimp only
    rw [State.takeGrant_eq, roster, Take.grantReceived_of_gone gone]
  | hold r q =>
    dsimp only
    rw [State.takeHold_eq, roster, Take.holdReceived_of_gone gone]
  | free r q reason =>
    dsimp only
    rw [State.takeFree_eq, roster, Take.freeReceived_of_gone gone]
  | withdraw =>
    have withdrawn : s.begin.rosterWithdraw f.header =
        (s.begin.purge f.header.source, some (.peer f.header.source .lost m.incarnation)) := by
      simp [Take.rosterWithdraw, member, differs]
    dsimp only
    rw [State.takeWithdraw, withdrawn]

/-- Settles O30: after the purge no block names the source, so that its frame is taken as a stranger's. -/
theorem otherIncarnationIsPurgedFirst : Obligations.OtherIncarnationIsPurgedFirst := by
  intro c f s frame valid takes other m member differs
  let x := f.header.source
  let v := s.validFrame f.header
  let k := v.begin.purge x
  let t := k.takenAsStranger f
  have gone : k.state.Gone x := v.gone_purge x
  have taken : exec c s = .next (t.finish v (some (.peer x .lost m.incarnation))) := by
    rw [takes.exec frame valid, State.takeParts_of_other other ((s.validFrame_member? _ _).trans member) differs]
  obtain ⟨state, granted⟩ := k.takenAsStranger_state f
  have table : t.state.claims.table = k.state.claims.table := by rw [state]
  have answers : t.state.answers = k.state.answers := by rw [state]
  have scheduler : t.state.scheduler = k.state.scheduler := by rw [state]
  have roster : t.state.roster = s.roster.filter fun m => m.station != x := by
    rw [state]
    exact (Take.purge_roster _ x).trans (by rw [State.begin_state, State.validFrame_roster])
  have event : v.EventFrame t.state := by
    rw [state]
    exact (v.begin.purge_event x).trans (State.view_event _ _)
  refine ⟨_, taken, roster, fun g mem => gone.answers g (answers ▸ mem), fun e mem => gone.table e (table ▸ mem),
    (takes.took.event event takes.idle).finish _ _, fun lawful size => ?_⟩
  have purged : s.PurgedFor x k := State.purgedFor lawful.keyed f.header x
  have notices := Take.finish_notices (s := s) (h := f.header) event.notices (some (.peer x .lost m.incarnation))
  rw [granted, purged.granted] at notices
  refine ⟨table.trans purged.table, answers.trans purged.answers,
    scheduler.trans purged.scheduler, fun r q body => ?_, fun noHold => ?_⟩
  · have added : t = k.addHolder r (.peer x f.header.incarnation (.hold q)) := by
      show k.takenAsStranger f = _
      rw [Take.takenAsStranger, body]
    have here : viewAt k.state.view r = s.purgedEntry x r := by
      rw [State.purge_viewAt (State.validFrame_keyed lawful.keyed _) x (by rw [State.validFrame_view, size]),
        State.validFrame_purgedEntry]
    have view : t.state.view = (s.purgedView x).set r.val
        ((s.purgedEntry x r).add (.peer x f.header.incarnation (.hold q))).1 := by
      rw [added, ← purged.view size, ← here]
      rfl
    have conflicts (r' : Resource) : r' ∈ t.conflicts ↔ r' ∈ s.purgeConflicts x ++
        if ((s.purgedEntry x r).add (.peer x f.header.incarnation (.hold q))).2 = true then [r] else [] := by
      rw [added, List.mem_append, ← purged.conflicts size, ← here]
      show (r' ∈ if _ then insertResource r k.conflicts else k.conflicts) ↔ _
      split
      · rw [mem_insertResource_iff, List.mem_singleton, or_comm]
      · simp
    exact ⟨view, notices.trans (by rw [viewNotices_congr conflicts]; rfl)⟩
  · have still : t = k := by
      show k.takenAsStranger f = k
      unfold Take.takenAsStranger
      split
      · exact absurd ‹_› (noHold _ _)
      all_goals rfl
    refine ⟨?_, notices.trans ?_⟩
    · exact (congrArg (fun k : Take => k.state.view) still).trans (purged.view size)
    · have conflicts (r : Resource) : r ∈ t.conflicts ↔ r ∈ s.purgeConflicts x := by rw [still, purged.conflicts size]
      rw [viewNotices_congr conflicts]
      rfl

end Sys2Proof.Machine

/-! PROOFS. The roster's event of a PRESENCE: admission, refresh and renewal (R28, R54 to R58, R63). -/

namespace Sys2Proof.Machine

/-! ## The parts of a PRESENCE after the roster's -/

theorem Take.foldl_addHolder_state (l : List Resource) (holder : Holder) (k : Take) :
    (l.foldl (fun t r => t.addHolder r holder) k).state =
        { k.state with view := (l.foldl (fun t r => t.addHolder r holder) k).state.view }
      ∧ (l.foldl (fun t r => t.addHolder r holder) k).granted = k.granted := by
  induction l generalizing k with
  | nil => exact ⟨rfl, rfl⟩
  | cons r l ih =>
    obtain ⟨state, granted⟩ := ih (k.addHolder r holder)
    exact ⟨state, granted⟩

/-- The View Table's part of a PRESENCE reaches the view alone. -/
theorem Take.viewPresence_state (k : Take) (h : Header) (p : Presence) :
    (k.viewPresence h p).state = { k.state with view := (k.viewPresence h p).state.view }
      ∧ (k.viewPresence h p).granted = k.granted := by
  obtain ⟨state, granted⟩ := Take.foldl_addHolder_state p.held (.peer h.source h.incarnation .presence)
    ((k.sweep h).on fun s => { s with view := dropUnlisted h.source p.held 0 s.view })
  exact ⟨state, granted⟩

/-- The event of a PRESENCE before its notices, less what a heard list can end. -/
def State.presenceEvent (s : State) (h : Header) (p : Presence) : Take :=
  ((s.begin.rosterPresence h p).1.on fun t => t.hearOwn h p).viewPresence h p

theorem State.presenceTaken_finish (s : State) (h : Header) (p : Presence) :
    s.presenceTaken h p = (s.presenceEvent h p).finish s (s.begin.rosterPresence h p).2 := rfl

/-- R63, R64: what a heard list leaves in the roster. -/
theorem State.hearOwn_roster (s : State) (h : Header) (p : Presence) : (s.hearOwn h p).roster =
    s.roster.map fun m => if m.station = h.source then { m with heardUs := hearsUs (s.session.reports p) p } else m := rfl

theorem State.presenceEvent_keeps (s : State) (h : Header) (p : Presence) :
    (s.presenceEvent h p).state.claims = (s.begin.rosterPresence h p).1.state.claims
      ∧ (s.presenceEvent h p).state.answers = (s.begin.rosterPresence h p).1.state.answers
      ∧ (s.presenceEvent h p).state.scheduler = (s.begin.rosterPresence h p).1.state.scheduler
      ∧ (s.presenceEvent h p).granted = (s.begin.rosterPresence h p).1.granted := by
  obtain ⟨state, granted⟩ := ((s.begin.rosterPresence h p).1.on fun t => t.hearOwn h p).viewPresence_state h p
  refine ⟨?_, ?_, ?_, granted⟩ <;> (rw [State.presenceEvent, state]; rfl)

theorem State.presenceEvent_roster (s : State) (h : Header) (p : Presence) : (s.presenceEvent h p).state.roster =
    (s.begin.rosterPresence h p).1.state.roster.map fun m =>
      if m.station = h.source then { m with heardUs := hearsUs (s.session.reports p) p } else m := by
  obtain ⟨state, -⟩ := ((s.begin.rosterPresence h p).1.on fun t => t.hearOwn h p).viewPresence_state h p
  have session : (s.begin.rosterPresence h p).1.state.session = s.session := (s.begin.rosterPresence_event h p).session
  rw [State.presenceEvent, state]
  show ((s.begin.rosterPresence h p).1.state.hearOwn h p).roster = _
  rw [State.hearOwn_roster, session]

/-! ## Heard lists -/

theorem hearsUs_iff (c : SessionController) (p : Presence) : hearsUs c p = true ↔ (c.number, c.incarnation) ∈ p.heard := by
  simp only [hearsUs, List.any_eq_true, Bool.and_eq_true, beq_iff_eq]
  constructor
  · rintro ⟨⟨x, i⟩, mem, rfl, rfl⟩
    exact mem
  · exact fun mem => ⟨_, mem, rfl, rfl⟩

theorem hearsUs_eq (c : SessionController) (p : Presence) : hearsUs c p = decide ((c.number, c.incarnation) ∈ p.heard) := by
  rw [Bool.eq_iff_iff, hearsUs_iff, decide_eq_true_eq]

/-- R80: reports reach the heard set and the candidate alone. -/
theorem SessionController.foldl_report_eq (l : List (Station × Incarnation)) (c : SessionController) :
    l.foldl (fun d q => d.report q.2) c = { c with
      heardSet := (l.foldl (fun d q => d.report q.2) c).heardSet
      incarnation := (l.foldl (fun d q => d.report q.2) c).incarnation } := by
  induction l generalizing c with
  | nil => rfl
  | cons q l ih => exact ih (c.report q.2)

theorem SessionController.reports_eq (c : SessionController) (p : Presence) : c.reports p =
    { c with heardSet := (c.reports p).heardSet, incarnation := (c.reports p).incarnation } := by
  unfold SessionController.reports
  split
  · exact SessionController.foldl_report_eq _ c
  · rfl

theorem SessionController.reports_of_not {c : SessionController} (other : c.state ≠ .listening) (p : Presence) :
    c.reports p = c := if_neg other

/-- R63, R84: a PRESENCE that hears the own station is no lapse. -/
theorem State.omission_of_heard {s : State} {p : Presence}
    (heard : s.session.state = .member → (s.session.number, s.session.incarnation) ∈ p.heard) (h : Header) :
    s.omission h p = s := by
  refine if_neg fun ⟨member, deaf⟩ => ?_
  rw [(hearsUs_iff _ _).mpr (heard member)] at deaf
  cases deaf

/-! ## Admissions -/

/-- R19, R28: the place of the re-send of an entry that awaits one station more. -/
theorem State.await_scheduler_eq {s : State} {r : Resource} {e : ClaimEntry} (he : s.entry? r = some e) (wanted : e.state = .wanted)
    (x : Station) : (s.await r x).scheduler =
      if e.announced = true ∧ e.slot.unsent = none then s.scheduler.place (.entry r) else s.scheduler := by
  by_cases announced : e.announced = true
  · rw [State.await_scheduler he wanted announced]
    simp [announced]
  · simp [State.await, he, wanted, announced]

/-- R28: an admission places the re-sends of the announced entries that it awaits. -/
theorem State.foldl_await_scheduler (l : List Resource) (x : Station) {s : State} (nodup : l.Nodup)
    (wanted : ∀ r ∈ l, ∃ e, s.entry? r = some e ∧ e.state = .wanted) :
    (l.foldl (fun t r => t.await r x) s).scheduler = { s.scheduler with
      order := placedLast s.scheduler.order
        (l.filter fun r => (s.entry? r).any fun e => e.announced && e.slot.unsent.isNone) } := by
  induction l generalizing s with
  | nil => simp
  | cons r l ih =>
    obtain ⟨new, nodup⟩ := List.nodup_cons.mp nodup
    obtain ⟨e, he, hw⟩ := wanted r (List.mem_cons_self ..)
    have others {r' : Resource} (mem : r' ∈ l) : (s.await r x).entry? r' = s.entry? r' := by
      have ne : r' ≠ r := fun same => new (same ▸ mem)
      rw [State.entry?_await, if_neg ne]
    rw [List.foldl_cons, ih nodup fun r' mem => by rw [others mem]; exact wanted r' (List.mem_cons_of_mem _ mem),
      State.await_scheduler_eq he hw, List.filter_congr fun r' mem => by rw [others mem]]
    by_cases again : e.announced = true ∧ e.slot.unsent = none
    · rw [if_pos again, List.filter_cons_of_pos (by simp [he, again])]
      refine congrArg (fun o => { s.scheduler with order := o }) (placedLast_cons fun mem => new ?_)
      exact List.mem_of_mem_filter mem
    · rw [if_neg again, List.filter_cons_of_neg (by simpa [he] using again)]

theorem State.enrol_scheduler {s : State} (keyed : s.Keyed) (h : Header) (p : Presence) : (s.enrol h p).scheduler =
    { s.scheduler with order := placedLast s.scheduler.order (resendsFor p.interest s.claims.table) } := by
  let q : ClaimEntry → Bool := fun e => e.state == .wanted && inGroups p.interest e.resource
  have wanted : ∀ r ∈ (s.claims.table.filter q).map (·.resource), ∃ e, s.entry? r = some e ∧ e.state = .wanted := by
    intro r mem
    obtain ⟨e, he, rfl⟩ := List.mem_map.mp mem
    obtain ⟨mem, hq⟩ := List.mem_filter.mp he
    exact ⟨e, keyed.entry?_of_mem mem, by simpa [q] using ((Bool.and_eq_true _ _).mp hq).1⟩
  refine (State.foldl_await_scheduler (s := { s with
    roster := insertAsc (fun m => m.station.val) (Member.admitted h p) s.roster }) _ h.source (keyed.nodup q) wanted).trans ?_
  refine congrArg (fun l => { s.scheduler with order := placedLast s.scheduler.order l }) ?_
  show ((s.claims.table.filter q).map (·.resource)).filter
    (fun r => (s.entry? r).any fun e => e.announced && e.slot.unsent.isNone) = _
  rw [List.filter_map, List.filter_filter]
  refine congrArg (List.map _) (List.filter_congr fun e mem => ?_)
  simp only [q, Function.comp_apply, keyed.entry?_of_mem mem, Option.any_some, beq_eq_decide, Bool.and_comm, Bool.and_left_comm,
    Bool.and_assoc]

theorem State.modifyEntry_waiters (s : State) (r : Resource) {f : ClaimEntry → ClaimEntry} (hf : ∀ e, (f e).waiters = e.waiters) :
    (s.modifyEntry r f).claims.table.map (·.waiters) = s.claims.table.map (·.waiters) := by
  rw [State.modifyEntry_table, List.map_map]
  refine List.map_congr_left fun e _ => ?_
  by_cases hr : e.resource = r <;> simp [hr, hf]

theorem State.placeResend_waiters (s : State) (r : Resource) :
    (s.placeResend r).claims.table.map (·.waiters) = s.claims.table.map (·.waiters) := by
  unfold State.placeResend
  split
  · rfl
  · dsimp only
    split
    · exact s.modifyEntry_waiters r fun _ => rfl
    · exact (State.modifyEntry_waiters _ r fun _ => by rfl).trans (s.modifyEntry_waiters r fun _ => rfl)

/-- An admission leaves what the entries hold back. -/
theorem State.await_waiters (s : State) (r : Resource) (x : Station) :
    (s.await r x).claims.table.map (·.waiters) = s.claims.table.map (·.waiters) := by
  unfold State.await
  split
  · rfl
  · split
    · dsimp only
      split
      · refine (State.placeResend_waiters _ r).trans ((State.modifyEntry_waiters _ r fun _ => by rfl).trans ?_)
        exact s.modifyEntry_waiters r fun _ => rfl
      · exact s.modifyEntry_waiters r fun _ => rfl
    · rfl

theorem State.enrol_waiters (s : State) (h : Header) (p : Presence) :
    (s.enrol h p).claims.table.map (·.waiters) = s.claims.table.map (·.waiters) := by
  have each (l : List Resource) (t : State) :
      (l.foldl (fun t r => t.await r h.source) t).claims.table.map (·.waiters) = t.claims.table.map (·.waiters) := by
    induction l generalizing t with
    | nil => rfl
    | cons r l ih => exact (ih _).trans (t.await_waiters r h.source)
  exact each _ _

/-! ## The roster's event -/

section

variable {s : State} {h : Header} {p : Presence}

theorem State.rosterPresence_joined (stranger : s.member? h.source = none) : s.begin.rosterPresence h p =
    (s.begin.on fun t => t.enrol h p, some (.peer h.source .joined h.incarnation)) := by
  simp [Take.rosterPresence, stranger]

theorem State.rosterPresence_refreshed {m : Member} (member : s.member? h.source = some m)
    (incarnation : m.incarnation = h.incarnation) (interest : m.interest = p.interest) : s.begin.rosterPresence h p =
      (s.begin.on fun t => t.modifyMember h.source (Member.refreshed p), none) := by
  simp [Take.rosterPresence, member, incarnation, interest]

theorem State.rosterPresence_renewed {m : Member} (member : s.member? h.source = some m)
    (differs : ¬ (m.incarnation = h.incarnation ∧ m.interest = p.interest)) : s.begin.rosterPresence h p =
      ((s.begin.purge h.source).on fun t => t.enrol h p, some (.peer h.source .renewed h.incarnation)) := by
  simp only [Take.rosterPresence, State.begin_state, member, if_neg differs]

end

theorem State.presenceEvent_notices (s : State) (h : Header) (p : Presence) : (s.presenceEvent h p).state.notices = s.notices :=
  (Take.viewPresence_event _ h p).notices.trans (s.begin.rosterPresence_event h p).notices

/-- The notices of a PRESENCE before those that a heard list can bring. -/
theorem State.presenceTaken_notices (s : State) (h : Header) (p : Presence) :
    ((s.validFrame h).presenceTaken h p).notices =
      (((s.validFrame h).begin.rosterPresence h p).2.toList
        ++ (((s.validFrame h).begin.rosterPresence h p).1.granted.map NoticeBody.granted
          ++ viewNotices ((s.validFrame h).presenceEvent h p).conflicts s.viewWatch 0 s.view
            ((s.validFrame h).presenceEvent h p).state.view)).foldl NoticeQueue.give s.countValid.notices := by
  obtain ⟨-, -, -, granted⟩ := (s.validFrame h).presenceEvent_keeps h p
  rw [State.presenceTaken_finish, Take.finish_notices (State.presenceEvent_notices _ h p), granted]

/-- The notices that are no PEER notices. -/
def NoticeBody.NoPeers (l : List NoticeBody) : Prop := ∀ x event i, NoticeBody.peer x event i ∉ l

theorem entryNotices_noPeers (conflicts : List Resource) (watch : Option Groups) (r : Resource) (b a : ViewEntry) :
    NoticeBody.NoPeers (entryNotices conflicts watch r b a) := by
  intro x event i mem
  obtain mem | mem := List.mem_append.mp mem
  · split at mem
    · split at mem <;> simp at mem
    all_goals cases mem
  · split at mem
    · cases mem
    · split at mem <;> simp at mem

theorem viewNotices_noPeers (conflicts : List Resource) (watch : Option Groups) (n : Nat) (before after : List ViewEntry) :
    NoticeBody.NoPeers (viewNotices conflicts watch n before after) := by
  induction after generalizing n before with
  | nil => cases before <;> exact fun _ _ _ mem => (nomatch mem)
  | cons a after ih =>
    cases before with
    | nil => exact fun _ _ _ mem => (nomatch mem)
    | cons b before =>
      rw [viewNotices_cons]
      exact fun x event i mem => (List.mem_append.mp mem).elim (entryNotices_noPeers _ _ _ _ _ x event i) (ih _ _ x event i)

/-- The GRANTED and view notices of an event are no PEER notices. -/
theorem eventNotices_noPeers (granted conflicts : List Resource) (watch : Option Groups) (before after : List ViewEntry) :
    NoticeBody.NoPeers (granted.map NoticeBody.granted ++ viewNotices conflicts watch 0 before after) := by
  intro x event i mem
  obtain mem | mem := List.mem_append.mp mem
  · obtain ⟨r, -, eq⟩ := List.mem_map.mp mem
    cases eq
  · exact viewNotices_noPeers _ _ _ _ _ x event i mem

/-! ## PRESENCE -/

theorem ClaimEntry.joinedBy_resource (x : Station) (g : Groups) (e : ClaimEntry) : (e.joinedBy x g).resource = e.resource := by
  rw [ClaimEntry.joinedBy_eq]
  split
  · exact e.awaits_resource x
  · rfl

/-- R30: an entry that a purge completes is HELD. -/
theorem ClaimEntry.purged_of_last {e : ClaimEntry} {x : Station} (last : e.LastAnswer x) : (e.purged x).state = .held := by
  rw [ClaimEntry.purged, if_pos last.1, ClaimEntry.countAnswer]
  simp only [last.2, if_true]

section

variable {x : Station} {g : Groups} {e : ClaimEntry}

/-- R28: an admission adds the new member to no entry but the WANTED ones in its interest. -/
theorem ClaimEntry.joinedBy_of_not (out : ¬ (e.state = .wanted ∧ inGroups g e.resource = true)) : e.joinedBy x g = e :=
  if_neg out

theorem ClaimEntry.joinedBy_of_quiet (wanted : e.state = .wanted) (inside : inGroups g e.resource = true)
    (quiet : e.announced = false) : e.joinedBy x g = { e with awaiting := insertStation x e.awaiting } := by
  rw [ClaimEntry.joinedBy, if_pos ⟨wanted, inside⟩]
  simp [quiet]

theorem ClaimEntry.joinedBy_of_announced (wanted : e.state = .wanted) (inside : inGroups g e.resource = true)
    (announced : e.announced = true) : e.joinedBy x g =
      { e with awaiting := insertStation x e.awaiting, resendDue := none,
               slot := { e.slot with unsent := some (e.slot.unsent.getD .resend) } } := by
  rw [ClaimEntry.joinedBy, if_pos ⟨wanted, inside⟩]
  simp [announced]

/-- R30: the admission half of a renewal leaves what its purge half has completed. -/
theorem ClaimEntry.joinedBy_purged_of_last (last : e.LastAnswer x) : (e.purged x).joinedBy x g =
    { e with waiters := e.waiters.filter fun w => w.station != x }.countAnswer x := by
  have held := ClaimEntry.purged_of_last last
  rw [ClaimEntry.joinedBy_of_not fun wanted => (nomatch held.symm.trans wanted.1), ClaimEntry.purged, if_pos last.1]

end

/-- An admission adds no waiter, so a station that is gone stays out of every waiter list. -/
theorem State.Gone.enrol {s : State} {x : Station} (gone : s.Gone x) (h : Header) (p : Presence) :
    ∀ e ∈ (s.enrol h p).claims.table, ∀ w ∈ e.waiters, w.station ≠ x := by
  intro e mem
  have here : e.waiters ∈ s.claims.table.map (·.waiters) := s.enrol_waiters h p ▸ List.mem_map_of_mem mem
  obtain ⟨e', mem', same⟩ := List.mem_map.mp here
  rw [← same]
  exact (gone.table e' mem').2

theorem exec_receivePresence_of_takes {s : State} {h : Header} {p : Presence} (takes : s.TakesFrom h)
    (valid : p.wellFormed = true) : exec (.receivePresence h p) s =
      .next (((s.validFrame h).presenceTaken h p).omission h p) :=
  takes.exec (c := .receivePresence h p) rfl valid

theorem State.presenceTaken_validFrame_session (s : State) (h : Header) (p : Presence) :
    ((s.validFrame h).presenceTaken h p).session = s.session.reports p := by
  rw [State.presenceTaken_session, State.validFrame_session]

theorem exec_presence_of_heard {s : State} {h : Header} {p : Presence} (takes : s.TakesFrom h) (valid : p.wellFormed = true)
    (hears : s.session.state = .member → (s.session.number, s.session.incarnation) ∈ p.heard) :
    exec (.receivePresence h p) s = .next ((s.validFrame h).presenceTaken h p) := by
  rw [exec_receivePresence_of_takes takes valid]
  refine congrArg _ (State.omission_of_heard (fun member => ?_) h)
  have session := s.presenceTaken_validFrame_session h p
  have own : s.session.state = .member := by rwa [session, SessionController.reports_eq] at member
  rw [session, SessionController.reports_of_not (by rw [own]; exact (nomatch ·))]
  exact hears own

/-- A member admitted by the frame, when its heard list has been read. -/
theorem State.joins_roster {l : List Member} {h : Header} (p : Presence) (us : Bool) (new : ∀ m ∈ l, m.station ≠ h.source) :
    ((insertAsc (fun m : Member => m.station.val) (Member.admitted h p) l).map fun m =>
        if m.station = h.source then { m with heardUs := us } else m) =
      insertAsc (fun m => m.station.val)
        { station := h.source, incarnation := h.incarnation, interest := p.interest, standing := p.standing,
          heardUs := us, held := p.held, silence := 0, lossDue := false, lossMet := none } l := by
  rw [map_insertAsc _ _ _ _ (fun m => by split <;> rfl) fun m mem => if_neg (new m mem)]
  exact congrArg (fun m => insertAsc _ m l) (if_pos rfl)

/-- Settles O31: the roster's event by the member that the frame finds, then what its heard list tells. -/
theorem presenceAdmitsRefreshesOrRenews : Obligations.PresenceAdmitsRefreshesOrRenews := by
  intro h p s valid takes hears
  let v := s.validFrame h
  let t := v.presenceTaken h p
  have took : State.Took { s with session := t.session } t h := State.presenceTaken_took p takes.took takes.idle
  have session : t.session = s.session.reports p := s.presenceTaken_validFrame_session h p
  have shape := SessionController.reports_eq s.session p
  rw [← session] at shape
  have unchanged (other : s.session.state ≠ .listening) : t.session = s.session :=
    session.trans (SessionController.reports_of_not other p)
  have taken : exec (.receivePresence h p) s = .next t := exec_presence_of_heard takes valid hears
  have us : hearsUs (v.session.reports p) p = decide ((s.session.number, t.session.incarnation) ∈ p.heard) := by
    rw [State.validFrame_session, ← session, hearsUs_eq, shape]
  obtain ⟨claims, answers, scheduler, granted⟩ := v.presenceEvent_keeps h p
  have notices := s.presenceTaken_notices h p
  have roster := v.presenceEvent_roster h p
  rw [us] at roster
  refine ⟨t, taken, took, shape, unchanged, fun stranger => ?_, fun m member incarnation interest => ?_,
    fun m member differs => ?_⟩
  · have event : v.begin.rosterPresence h p = _ := State.rosterPresence_joined ((s.validFrame_member? h _).trans stranger)
    rw [event] at claims answers scheduler granted notices roster
    have strangers : ∀ m ∈ s.roster, m.station ≠ h.source := fun m mem same =>
      absurd (List.find?_eq_none.mp stranger m mem) (by simp [same])
    refine ⟨roster.trans ?_, answers.trans ((v.enrol_answers h p).trans (s.validFrame_answers h)),
      ⟨_, eventNotices_noPeers _ _ _ _ _, notices⟩, fun lawful => ?_⟩
    · show (v.enrol h p).roster.map _ = _
      rw [State.enrol_roster, State.validFrame_roster]
      exact State.joins_roster p _ strangers
    · have keyed := State.validFrame_keyed lawful.keyed h
      have table : t.claims.table = s.claims.table.map (ClaimEntry.joinedBy h.source p.interest) := by
        refine (congrArg ClaimEngine.table claims).trans ((State.enrol_table keyed h p).trans ?_)
        rw [State.validFrame_table]
      have order : t.scheduler = { s.scheduler with
          order := placedLast s.scheduler.order (resendsFor p.interest s.claims.table) } := by
        refine scheduler.trans ((State.enrol_scheduler keyed h p).trans ?_)
        rw [State.validFrame_scheduler, State.validFrame_table]
      refine ⟨table, order, fun r e he => ?_⟩
      have entry : t.entry? r = some (e.joinedBy h.source p.interest) := by
        rw [State.entry?_map table (ClaimEntry.joinedBy_resource h.source p.interest), he, Option.map_some]
      have resource : e.resource = r := State.entry?_resource he
      refine ⟨fun out => ?_, fun wanted inside quiet => ?_, fun wanted inside announced => ?_⟩
      · rw [entry, ClaimEntry.joinedBy_of_not fun both => ?_]
        have inside : inGroups p.interest r = true := resource ▸ both.2
        exact out.elim (fun other => other both.1) fun outside => (nomatch outside.symm.trans inside)
      · rw [entry, ClaimEntry.joinedBy_of_quiet wanted (resource ▸ inside) quiet]
      · rw [entry, ClaimEntry.joinedBy_of_announced wanted (resource ▸ inside) announced]
  · have event : v.begin.rosterPresence h p = _ :=
      State.rosterPresence_refreshed ((s.validFrame_member? h _).trans member) incarnation interest
    rw [event] at claims answers scheduler granted notices roster
    refine ⟨roster.trans ?_, (congrArg ClaimEngine.table claims).trans (s.validFrame_table h),
      answers.trans (s.validFrame_answers h), scheduler.trans (s.validFrame_scheduler h),
      _, eventNotices_noPeers _ _ _ _ _, notices⟩
    show (v.roster.map _).map _ = _
    rw [State.validFrame_roster, List.map_map]
    refine List.map_congr_left fun x _ => ?_
    by_cases same : x.station = h.source <;> simp [same, Member.refreshed, Member.restart]
  · have event : v.begin.rosterPresence h p = _ :=
      State.rosterPresence_renewed ((s.validFrame_member? h _).trans member) differs
    rw [event] at claims answers scheduler granted notices roster
    let k := v.begin.purge h.source
    have gone : k.state.Gone h.source := v.gone_purge h.source
    have purgedRoster : k.state.roster = s.roster.filter fun m => m.station != h.source := by
      rw [Take.purge_roster, State.begin_state, State.validFrame_roster]
    have queue : t.answers = k.state.answers := answers.trans (k.state.enrol_answers h p)
    refine ⟨roster.trans ?_, fun g mem => gone.answers g (queue ▸ mem),
      fun e mem => gone.enrol h p e (congrArg ClaimEngine.table claims ▸ mem),
      ⟨_, eventNotices_noPeers _ _ _ _ _, notices⟩, fun lawful => ?_⟩
    · show (k.state.enrol h p).roster.map _ = _
      rw [State.enrol_roster, purgedRoster]
      refine State.joins_roster p _ fun m mem => ?_
      simpa using (List.mem_filter.mp mem).2
    · have purged : s.PurgedFor h.source k := State.purgedFor lawful.keyed h h.source
      have keyed : k.state.Keyed := by
        rw [State.Keyed, purged.table]
        exact lawful.keyed.map _ fun e => congrArg Fin.val (e.purged_resource h.source)
      have table : t.claims.table = (s.claims.table.map (ClaimEntry.purged h.source)).map
          (ClaimEntry.joinedBy h.source p.interest) := by
        refine (congrArg ClaimEngine.table claims).trans ((State.enrol_table keyed h p).trans ?_)
        rw [purged.table]
      refine ⟨table, queue.trans purged.answers, scheduler.trans ((State.enrol_scheduler keyed h p).trans ?_),
        fun r e he last => ?_⟩
      · rw [purged.scheduler, purged.table]
      · have joined (e : ClaimEntry) : ((e.purged h.source).joinedBy h.source p.interest).resource = e.resource := by
          rw [ClaimEntry.joinedBy_resource, ClaimEntry.purged_resource]
        rw [State.entry?_map (s := s) (by rw [table, List.map_map]; rfl) joined, he, Option.map_some]
        exact congrArg some (ClaimEntry.joinedBy_purged_of_last last)

end Sys2Proof.Machine

/-! PROOFS. What a PRESENCE leaves in the view (R98, R99, R104, R109). -/

namespace Sys2Proof.Machine

/-! ## Ascending lists -/

theorem heldAscending_iff (l : List Resource) : heldAscending l = true ↔ Ascending Fin.val l := by
  rw [Ascending, ← List.isChain_iff_pairwise]
  fun_induction heldAscending l with
  | case1 => simp
  | case2 => simp
  | case3 a b rest ih => simp [ih]

theorem Presence.held_nodup {p : Presence} (valid : p.wellFormed = true) : p.held.Nodup := by
  have ascends : heldAscending p.held = true := by
    simp only [Presence.wellFormed, Bool.and_eq_true] at valid
    exact valid.2
  exact ((heldAscending_iff _).mp ascends).imp fun lt eq => lt.ne (congrArg Fin.val eq)

/-! ## The holds that a held list names -/

/-- A holder added to the entries of several resources: the entries, and where it stands beside another. -/
theorem Take.foldl_addHolder_view (holder : Holder) {l : List Resource} {k : Take} (nodup : l.Nodup)
    (size : k.state.view.length = 256) :
    (∀ r, viewAt (l.foldl (fun t r => t.addHolder r holder) k).state.view r =
        if r ∈ l then ((viewAt k.state.view r).add holder).1 else viewAt k.state.view r)
      ∧ (l.foldl (fun t r => t.addHolder r holder) k).state.view.length = 256
      ∧ ∀ r, r ∈ (l.foldl (fun t r => t.addHolder r holder) k).conflicts ↔
        r ∈ k.conflicts ∨ r ∈ l ∧ ((viewAt k.state.view r).add holder).2 = true := by
  induction l generalizing k with
  | nil => exact ⟨fun r => by simp, size, fun r => by simp⟩
  | cons r l ih =>
    obtain ⟨new, nodup⟩ := List.nodup_cons.mp nodup
    have size' : (k.addHolder r holder).state.view.length = 256 := (List.length_set ..).trans size
    have view (r' : Resource) : viewAt (k.addHolder r holder).state.view r' =
        if r' = r then ((viewAt k.state.view r).add holder).1 else viewAt k.state.view r' := viewAt_set _ _ _ _ size
    have conflicts (r' : Resource) : r' ∈ (k.addHolder r holder).conflicts ↔
        r' ∈ k.conflicts ∨ r' = r ∧ ((viewAt k.state.view r).add holder).2 = true := by
      show (r' ∈ if _ then insertResource r k.conflicts else k.conflicts) ↔ _
      split
      · rename_i beside
        rw [mem_insertResource_iff, or_comm]
        simp [beside]
      · rename_i alone
        simp [alone]
    obtain ⟨ihView, ihSize, ihConflicts⟩ := ih nodup size'
    refine ⟨fun r' => ?_, ihSize, fun r' => ?_⟩
    · rw [List.foldl_cons, ihView, view]
      by_cases hr : r' = r
      · rw [hr, if_neg new, if_pos rfl, if_pos (List.mem_cons_self ..)]
      · simp only [List.mem_cons, hr, false_or, if_false]
    · rw [List.foldl_cons, ihConflicts, conflicts, view]
      by_cases hr : r' = r
      · simp [hr, new]
      · simp [hr]

/-- R98, R104: the view before the holds of the held list are added. -/
def Take.unlistedDropped (k : Take) (h : Header) (p : Presence) : Take :=
  (k.sweep h).on fun s => { s with view := dropUnlisted h.source p.held 0 s.view }

section

variable {k : Take} {h : Header} {p : Presence}

theorem Take.viewPresence_eq : k.viewPresence h p =
    p.held.foldl (fun t r => t.addHolder r (.peer h.source h.incarnation .presence)) (k.unlistedDropped h p) := rfl

theorem Take.unlistedDropped_length : (k.unlistedDropped h p).state.view.length = k.state.view.length :=
  (dropUnlisted_length ..).trans (dropEverywhere_length ..)

theorem Take.unlistedDropped_viewAt (r : Resource) : viewAt (k.unlistedDropped h p).state.view r =
    if r ∈ p.held then (viewAt k.state.view r).drop (Holder.isStale h.source h.incarnation)
    else ((viewAt k.state.view r).drop (Holder.isStale h.source h.incarnation)).drop (Holder.isPeer h.source) := by
  have swept (x : Resource) : viewAt (k.sweep h).state.view x =
      (viewAt k.state.view x).drop (Holder.isStale h.source h.incarnation) := viewAt_dropEverywhere _ _ _
  rw [← swept]
  exact viewAt_dropUnlisted _ _ _ _

/-- R104: a view entry after a PRESENCE, by whether the held list names it. -/
theorem Take.viewPresence_viewAt (valid : p.wellFormed = true) (size : k.state.view.length = 256) (r : Resource) :
    viewAt (k.viewPresence h p).state.view r =
      if r ∈ p.held then
        (((viewAt k.state.view r).drop (Holder.isStale h.source h.incarnation)).add
          (.peer h.source h.incarnation .presence)).1
      else ((viewAt k.state.view r).drop (Holder.isStale h.source h.incarnation)).drop (Holder.isPeer h.source) := by
  obtain ⟨view, -, -⟩ := Take.foldl_addHolder_view (.peer h.source h.incarnation .presence) (Presence.held_nodup valid)
    (k := k.unlistedDropped h p) (Take.unlistedDropped_length.trans size)
  rw [Take.viewPresence_eq, view, Take.unlistedDropped_viewAt]
  by_cases named : r ∈ p.held <;> simp [named]

theorem Take.viewPresence_length (valid : p.wellFormed = true) (size : k.state.view.length = 256) :
    (k.viewPresence h p).state.view.length = 256 :=
  (Take.foldl_addHolder_view _ (Presence.held_nodup valid) (Take.unlistedDropped_length.trans size)).2.1

theorem Take.viewPresence_conflicts (valid : p.wellFormed = true) (size : k.state.view.length = 256) (r : Resource) :
    r ∈ (k.viewPresence h p).conflicts ↔ r ∈ k.conflicts ∨ r ∈ p.held ∧
      (((viewAt k.state.view r).drop (Holder.isStale h.source h.incarnation)).add
        (.peer h.source h.incarnation .presence)).2 = true := by
  obtain ⟨-, -, conflicts⟩ := Take.foldl_addHolder_view (.peer h.source h.incarnation .presence) (Presence.held_nodup valid)
    (k := k.unlistedDropped h p) (Take.unlistedDropped_length.trans size)
  rw [Take.viewPresence_eq, conflicts, Take.unlistedDropped_viewAt]
  by_cases named : r ∈ p.held
  · simp only [named, if_true]
    rfl
  · simp only [named, if_false, false_and]
    rfl

end

/-- The entry records the station, with the incarnation, in its first or its latest slot. -/
def ViewEntry.Shows (v : ViewEntry) (x : Station) (i : Incarnation) : Prop :=
  v.first = some (.peer x i .presence) ∨ v.latest = some (.peer x i .presence)
    ∨ ∃ q, v.first = some (.peer x i (.hold q)) ∨ v.latest = some (.peer x i (.hold q))

/-- R99, R104: a PRESENCE that names a resource leaves its source recorded there. -/
theorem ViewEntry.shows_add_presence {x : Station} {i : Incarnation} {v : ViewEntry}
    (swept : v.drop (Holder.isStale x i) = v) : (v.add (.peer x i .presence)).1.Shows x i := by
  have recorded {g : Holder} (fresh : g.isStale x i = false) (same : g.same (.peer x i .presence) = true) :
      g = .peer x i .presence ∨ ∃ q, g = .peer x i (.hold q) := by
    cases g with
    | own q => cases same
    | peer y j src =>
      obtain rfl : y = x := by simpa [Holder.same] using same
      obtain rfl : j = i := by simpa [Holder.isStale] using fresh
      cases src with
      | presence => exact .inl rfl
      | hold q => exact .inr ⟨q, rfl⟩
  cases v with
  | unknown => exact .inl rfl
  | free => exact .inl rfl
  | held g =>
    rw [ViewEntry.add_held]
    split
    · rename_i same
      obtain rfl | ⟨q, rfl⟩ := recorded (ViewEntry.drop_held_eq_self.mp swept) same
      · exact .inl rfl
      · exact .inr (.inr ⟨q, .inl rfl⟩)
    · exact .inr (.inl rfl)
  | contested a b =>
    obtain ⟨first, latest⟩ := ViewEntry.drop_contested_eq_self.mp swept
    rw [ViewEntry.add_contested]
    split
    · rename_i same
      obtain rfl | ⟨q, rfl⟩ := recorded first same
      · exact .inl rfl
      · exact .inr (.inr ⟨q, .inl rfl⟩)
    · split
      · rename_i same
        obtain rfl | ⟨q, rfl⟩ := recorded latest same
        · exact .inr (.inl rfl)
        · exact .inr (.inr ⟨q, .inr rfl⟩)
      · exact .inr (.inl rfl)

/-! ## The roster's event before the view's -/

section

variable {s : State} {h : Header} {p : Presence}

@[simp] theorem State.validFrame_renews (s : State) (h h' : Header) (p : Presence) :
    (s.validFrame h).renews h' p = s.renews h' p := by rw [State.renews, State.validFrame_member?, State.renews]

@[simp] theorem State.validFrame_refreshes (s : State) (h h' : Header) (p : Presence) :
    (s.validFrame h).refreshes h' p = s.refreshes h' p := by rw [State.refreshes, State.validFrame_member?, State.refreshes]

/-- What the roster's event of a PRESENCE gives to the view and the notices. -/
structure State.PresenceRostered (s : State) (h : Header) (p : Presence) (k : Take) (peer : Option NoticeBody) : Prop where
  table : k.state.claims.table = s.presenceTable h p
  viewAt : ∀ r, viewAt k.state.view r = if s.renews h p = true then s.purgedEntry h.source r else viewAt s.view r
  size : k.state.view.length = 256
  granted : k.granted = if s.renews h p = true then s.completedBy h.source else []
  conflicts : ∀ r, r ∈ k.conflicts ↔ r ∈ if s.renews h p = true then s.purgeConflicts h.source else []
  peer : peer.toList = s.presencePeer h p

theorem State.presenceRostered (keyed : s.Keyed) (size : s.view.length = 256) (h : Header) (p : Presence) :
    s.PresenceRostered h p ((s.validFrame h).begin.rosterPresence h p).1 ((s.validFrame h).begin.rosterPresence h p).2 := by
  have keyed' := State.validFrame_keyed keyed h
  have size' : (s.validFrame h).view.length = 256 := by rw [State.validFrame_view, size]
  cases member : s.member? h.source with
  | none =>
    rw [State.rosterPresence_joined ((s.validFrame_member? h _).trans member)]
    have renews : s.renews h p = false := by simp [State.renews, member]
    have refreshes : s.refreshes h p = false := by simp [State.refreshes, member]
    have view : ((s.validFrame h).enrol h p).view = s.view := (State.enrol_view _ h p).trans (s.validFrame_view h)
    refine ⟨(State.enrol_table keyed' h p).trans ?_, fun r => ?_, (congrArg List.length view).trans size, ?_, fun r => ?_, ?_⟩
    · simp [State.presenceTable, State.beforeAdmission, renews, refreshes, State.validFrame_table]
    · simp only [renews, Bool.false_eq_true, if_false]
      exact congrArg (Machine.viewAt · r) view
    · rw [renews]
      rfl
    · rw [renews]
      exact Iff.rfl
    · simp [State.presencePeer, renews, refreshes]
  | some m =>
    by_cases same : m.incarnation = h.incarnation ∧ m.interest = p.interest
    · obtain ⟨incarnation, interest⟩ := same
      rw [State.rosterPresence_refreshed ((s.validFrame_member? h _).trans member) incarnation interest]
      have renews : s.renews h p = false := by simp [State.renews, member, incarnation, interest]
      have refreshes : s.refreshes h p = true := by simp [State.refreshes, member, incarnation, interest]
      refine ⟨(s.validFrame_table h).trans ?_, fun r => ?_, size', ?_, fun r => ?_, ?_⟩
      · simp [State.presenceTable, refreshes]
      · simp only [renews, Bool.false_eq_true, if_false]
        exact congrArg (Machine.viewAt · r) (s.validFrame_view h)
      · rw [renews]
        rfl
      · rw [renews]
        exact Iff.rfl
      · simp [State.presencePeer, refreshes]
    · rw [State.rosterPresence_renewed ((s.validFrame_member? h _).trans member) same]
      have renews : s.renews h p = true := by
        rw [State.renews, member, Option.any_some, Bool.not_eq_true', Bool.and_eq_false_iff]
        exact (not_and_or.mp same).imp beq_eq_false_iff_ne.mpr beq_eq_false_iff_ne.mpr
      have refreshes : s.refreshes h p = false := by
        rw [State.refreshes, member, Option.any_some, Bool.and_eq_false_iff]
        exact (not_and_or.mp same).imp beq_eq_false_iff_ne.mpr beq_eq_false_iff_ne.mpr
      have purged : s.PurgedFor h.source ((s.validFrame h).begin.purge h.source) := State.purgedFor keyed h h.source
      have purgedKeyed : ((s.validFrame h).begin.purge h.source).state.Keyed := by
        rw [State.Keyed, purged.table]
        exact keyed.map _ fun e => congrArg Fin.val (e.purged_resource h.source)
      have view := (State.enrol_view ((s.validFrame h).begin.purge h.source).state h p).trans (purged.view size)
      refine ⟨(State.enrol_table purgedKeyed h p).trans ?_, fun r => ?_, (congrArg List.length view).trans ?_, ?_, fun r => ?_, ?_⟩
      · simp [State.presenceTable, State.beforeAdmission, renews, refreshes, purged.table]
      · rw [if_pos renews]
        refine (congrArg (Machine.viewAt · r) (State.enrol_view _ h p)).trans ?_
        rw [State.purge_viewAt keyed' h.source size', State.validFrame_purgedEntry]
      · simp [State.purgedView]
      · rw [if_pos renews]
        exact purged.granted
      · rw [if_pos renews]
        exact purged.conflicts size r
      · simp [State.presencePeer, renews, refreshes]

end

/-- R98: the sweep leaves nothing of another incarnation. -/
theorem State.sweptEntry_swept (s : State) (h : Header) (p : Presence) (r : Resource) :
    (s.sweptEntry h p r).drop (Holder.isStale h.source h.incarnation) = s.sweptEntry h p r :=
  ViewEntry.drop_drop _ _

theorem viewAt_map_finRange (f : Resource → ViewEntry) (r : Resource) : viewAt ((List.finRange 256).map f) r = f r := by
  have inside : r.val < ((List.finRange 256).map f).length := by simp
  rw [viewAt, List.getD_eq_getElem _ _ inside]
  simp

section

variable {s : State} {h : Header} {p : Presence} (lawful : s.ClaimsLawful) (size : s.view.length = 256)
  (valid : p.wellFormed = true)

include lawful size

theorem State.presenceEvent_table : ((s.validFrame h).presenceEvent h p).state.claims.table = s.presenceTable h p := by
  obtain ⟨claims, -, -, -⟩ := (s.validFrame h).presenceEvent_keeps h p
  exact (congrArg ClaimEngine.table claims).trans (State.presenceRostered lawful.keyed size h p).table

include valid

theorem State.presenceEvent_view : ((s.validFrame h).presenceEvent h p).state.view = s.presenceView h p := by
  have rostered := State.presenceRostered lawful.keyed size h p
  let k := ((s.validFrame h).begin.rosterPresence h p).1.on fun t => t.hearOwn h p
  have base (r : Resource) : viewAt k.state.view r =
      if s.renews h p = true then s.purgedEntry h.source r else viewAt s.view r := rostered.viewAt r
  refine view_ext (Take.viewPresence_length (k := k) valid rostered.size) fun r => ?_
  refine (Take.viewPresence_viewAt (k := k) valid rostered.size r).trans ?_
  rw [base]
  rfl

theorem State.mem_presenceEvent_conflicts (r : Resource) :
    r ∈ ((s.validFrame h).presenceEvent h p).conflicts ↔ r ∈ s.presenceConflicts h p := by
  have rostered := State.presenceRostered lawful.keyed size h p
  let k := ((s.validFrame h).begin.rosterPresence h p).1.on fun t => t.hearOwn h p
  have base (r : Resource) : viewAt k.state.view r =
      if s.renews h p = true then s.purgedEntry h.source r else viewAt s.view r := rostered.viewAt r
  have before : r ∈ k.conflicts ↔ _ := rostered.conflicts r
  refine (Take.viewPresence_conflicts (k := k) valid rostered.size r).trans ?_
  rw [base, before, State.presenceConflicts, List.mem_append, List.mem_filter]
  rfl

/-- The notices of a PRESENCE before those that a heard list can bring. -/
theorem State.presenceTaken_presenceNotices : ((s.validFrame h).presenceTaken h p).notices =
    (s.presenceNotices h p).foldl NoticeQueue.give s.countValid.notices := by
  have rostered := State.presenceRostered lawful.keyed size h p
  rw [State.presenceTaken_notices, viewNotices_congr (State.mem_presenceEvent_conflicts lawful size valid),
    State.presenceEvent_view lawful size valid, rostered.peer, rostered.granted, State.presenceNotices, List.append_assoc]
  cases s.renews h p <;> rfl

end

/-- Settles O32: the roster's event as it leaves the view, then the view's part of the frame. -/
theorem presenceStatesItsHolds : Obligations.PresenceStatesItsHolds := by
  intro h p s valid takes hears lawful size
  have view : ((s.validFrame h).presenceTaken h p).view = s.presenceView h p := State.presenceEvent_view lawful size valid
  have entry (r : Resource) : viewAt ((s.validFrame h).presenceTaken h p).view r = s.presenceEntry h p r := by
    rw [view]
    exact viewAt_map_finRange _ r
  refine ⟨_, exec_presence_of_heard takes valid hears, view, State.presenceTaken_presenceNotices lawful size valid,
    fun r named => ?_, fun r unnamed => (entry r).trans (if_neg unnamed)⟩
  have here : viewAt ((s.validFrame h).presenceTaken h p).view r =
      ((s.sweptEntry h p r).add (.peer h.source h.incarnation .presence)).1 := (entry r).trans (if_pos named)
  refine ⟨here, ?_⟩
  rw [here]
  exact ViewEntry.shows_add_presence (s.sweptEntry_swept h p r)

end Sys2Proof.Machine

/-! PROOFS. Heard lists: a lapse in MEMBER, and the candidate incarnation in LISTENING (R63, R64, R80, R84, R85). -/

namespace Sys2Proof.Machine

/-! ## The pairs of the own number -/

theorem heardAscending_iff (l : List (Station × Incarnation)) :
    heardAscending l = true ↔ Ascending (fun q : Station × Incarnation => q.1.val) l := by
  rw [Ascending, ← List.isChain_iff_pairwise]
  fun_induction heardAscending l with
  | case1 => simp
  | case2 => simp
  | case3 a b rest ih => simp [ih]

theorem Presence.heard_ascends {p : Presence} (valid : p.wellFormed = true) :
    Ascending (fun q : Station × Incarnation => q.1.val) p.heard := by
  simp only [Presence.wellFormed, Bool.and_eq_true] at valid
  exact (heardAscending_iff _).mp valid.1.2

theorem Presence.heard_once {p : Presence} (valid : p.wellFormed = true) {x : Station} {i j : Incarnation}
    (hi : (x, i) ∈ p.heard) (hj : (x, j) ∈ p.heard) : i = j :=
  congrArg Prod.snd ((Presence.heard_ascends valid).eq_of_key hi hj rfl)

/-- A heard list names the own number at most once (R123). -/
theorem ownPairs_of_mem {p : Presence} (valid : p.wellFormed = true) {x : Station} {i : Incarnation} (mem : (x, i) ∈ p.heard) :
    ownPairs x p = [(x, i)] := by
  have ascends := Presence.heard_ascends valid
  have nodup : p.heard.Nodup := ascends.imp fun lt eq => lt.ne (by rw [eq])
  have once : ∀ q ∈ p.heard, (q.1 == x) = (q == (x, i)) := fun q hq => by
    rw [Bool.eq_iff_iff, beq_iff_eq, beq_iff_eq]
    exact ⟨fun same => ascends.eq_of_key hq mem (congrArg Fin.val same), fun same => by rw [same]⟩
  rw [ownPairs, List.filter_congr once, List.filter_beq, List.count_eq_one_of_mem nodup mem]
  rfl

theorem ownPairs_of_not {p : Presence} {x : Station} (absent : ∀ i, (x, i) ∉ p.heard) : ownPairs x p = [] := by
  refine List.filter_eq_nil_iff.mpr fun q mem same => absent q.2 ?_
  have station : q.1 = x := by simpa using same
  rw [← station]
  exact mem

section

variable {c : SessionController} {p : Presence} (listening : c.state = .listening)

include listening

theorem SessionController.reports_of_mem (valid : p.wellFormed = true) {i : Incarnation} (mem : (c.number, i) ∈ p.heard) :
    c.reports p = c.report i := by
  rw [SessionController.reports, if_pos listening, ownPairs_of_mem valid mem]
  rfl

theorem SessionController.reports_of_absent (absent : ∀ i, (c.number, i) ∉ p.heard) : c.reports p = c := by
  rw [SessionController.reports, if_pos listening, ownPairs_of_not absent]
  rfl

end

/-! ## The candidate -/

/-- R80: the candidate after stepping: every value that it has passed is in the set, and it stopped before the fuel ended
at a value that is not. -/
theorem stepAway_spec (heard : List Incarnation) (fuel : Nat) (c : Incarnation) :
    ∃ k ≤ fuel, stepAway heard fuel c = c + Fin.ofNat 256 k ∧ (∀ j < k, c + Fin.ofNat 256 j ∈ heard)
      ∧ (k < fuel → stepAway heard fuel c ∉ heard) := by
  induction fuel generalizing c with
  | zero => exact ⟨0, le_refl _, by simp [stepAway], fun j hj => absurd hj (Nat.not_lt_zero j), fun h => absurd h (Nat.lt_irrefl 0)⟩
  | succ fuel ih =>
    by_cases heardHere : c ∈ heard
    · obtain ⟨k, le, stepped, passed, stopped⟩ := ih (c + 1)
      have next (j : Nat) : c + 1 + Fin.ofNat 256 j = c + Fin.ofNat 256 (j + 1) := by
        rw [add_assoc]
        congr 1
        simp [Fin.ext_iff, Fin.val_add, Nat.add_comm]
      rw [stepAway, if_pos heardHere]
      refine ⟨k + 1, Nat.succ_le_succ le, stepped.trans (next k), fun j hj => ?_, fun lt => stopped (Nat.lt_of_succ_lt_succ lt)⟩
      cases j with
      | zero => simpa using heardHere
      | succ j => rw [← next]; exact passed j (Nat.lt_of_succ_lt_succ hj)
    · rw [stepAway, if_neg heardHere]
      exact ⟨0, Nat.zero_le _, by simp, fun j hj => absurd hj (Nat.not_lt_zero j), fun _ => heardHere⟩

/-- A set of fewer than 256 incarnations lacks one. -/
theorem exists_unheard {heard : List Incarnation} (room : heard.length < 256) (c : Incarnation) :
    ∃ j < 256, c + Fin.ofNat 256 j ∉ heard := by
  by_contra full
  push Not at full
  have all : ∀ i : Incarnation, i ∈ heard := fun i => by
    have := full (i - c).val (i - c).isLt
    simpa using this
  have card : Fintype.card Incarnation ≤ heard.toFinset.card := Finset.card_le_card fun i _ => by simpa using all i
  have := heard.toFinset_card_le
  simp at card
  omega

/-! ## The lapse -/

/-- R85: what a lapse leaves, block by block. -/
theorem State.lapse_eq (s : State) (x : Option Station) : s.lapse x =
    { s with
      session := { s.session with
        state := .listening, incarnation := s.session.incarnation + 1, heardSet := []
        joinWindow := some s.config.joinMs, ownPresence := none }
      claims := { s.claims with table := [] }
      answers := []
      roster := []
      view := viewUnknown
      scheduler := .reset
      line := { s.line.cutLoose (fun _ => true) with roundType := .fixed }
      notices := ((s.claims.table.map (clearNotice .lapse)).foldl NoticeQueue.give s.notices).give
        (.session .listening .lapse x) } := rfl

/-- R84: in MEMBER a heard list that omits the own station is a lapse. -/
theorem State.omission_of_omitted {s : State} {p : Presence} (member : s.session.state = .member)
    (omitted : (s.session.number, s.session.incarnation) ∉ p.heard) (h : Header) : s.omission h p = s.lapse (some h.source) :=
  if_pos ⟨member, Bool.eq_false_iff.mpr fun hears => omitted ((hearsUs_iff _ _).mp hears)⟩

/-! ## LISTENING -/

section

variable {s : State} {h : Header} {p : Presence} (takes : s.TakesFrom h) (valid : p.wellFormed = true)
  (listening : s.session.state = .listening)

include takes valid listening

theorem exec_presence_in_listening :
    exec (.receivePresence h p) s = .next ((s.validFrame h).presenceTaken h p) :=
  exec_presence_of_heard takes valid fun member => (nomatch listening.symm.trans member)

omit takes in
/-- R63: the heard-us flag of the source, against the candidate that the report leaves. -/
theorem State.presenceTaken_heardUs {i : Incarnation} (mem : (s.session.number, i) ∈ p.heard) :
    ∀ m ∈ ((s.validFrame h).presenceTaken h p).roster, m.station = h.source →
      m.heardUs = decide (i = (s.session.report i).incarnation) := by
  have reports := SessionController.reports_of_mem listening valid mem
  intro m hm source
  have roster : ((s.validFrame h).presenceTaken h p).roster = _ := (s.validFrame h).presenceEvent_roster h p
  rw [roster] at hm
  obtain ⟨m', -, rfl⟩ := List.mem_map.mp hm
  have same : m'.station = h.source := by
    by_contra other
    rw [if_neg other] at source
    exact other source
  rw [if_pos same]
  show hearsUs ((s.validFrame h).session.reports p) p = _
  rw [State.validFrame_session, reports, hearsUs_eq]
  refine decide_eq_decide.mpr ⟨fun heard => Presence.heard_once valid mem heard, fun eq => ?_⟩
  show (s.session.number, (s.session.report i).incarnation) ∈ p.heard
  rw [← eq]
  exact mem

end

/-- Settles O33. -/
theorem heardListsLapseOrStepTheCandidate : Obligations.HeardListsLapseOrStepTheCandidate := by
  refine ⟨fun h p s valid takes member omitted => ?_, fun h p i s valid takes listening mem room => ?_,
    fun h p i s valid takes listening mem full => ?_, fun h p s valid takes listening absent => ?_⟩
  · let t := (s.validFrame h).presenceTaken h p
    have session : t.session = s.session := (s.presenceTaken_validFrame_session h p).trans
      (SessionController.reports_of_not (by rw [member]; exact (nomatch ·)) p)
    have took : State.Took { s with session := t.session } t h := State.presenceTaken_took p takes.took takes.idle
    have taken : exec (.receivePresence h p) s = .next (t.lapse (some h.source)) := by
      rw [exec_receivePresence_of_takes takes valid]
      exact congrArg _ (State.omission_of_omitted (by rw [session]; exact member) (by rw [session]; exact omitted) h)
    rw [State.lapse_eq] at taken
    refine ⟨_, taken, ?_, ?_, rfl, rfl, rfl, rfl, rfl, took.link, took.pending, fun lawful size => ?_⟩
    · show ({ t.session with
        state := .listening, incarnation := t.session.incarnation + 1, heardSet := []
        joinWindow := some t.config.joinMs, ownPresence := none } : SessionController) = _
      rw [State.config, session]
      rfl
    · show ({ t.claims with table := [] } : ClaimEngine) = _
      rw [← took.clock, show s.claims = { s.claims with seq := t.claims.seq } by rw [took.seq]]
    · show NoticeQueue.give ((t.claims.table.map (clearNotice .lapse)).foldl NoticeQueue.give t.notices) _ = _
      have table : t.claims.table = s.presenceTable h p := State.presenceEvent_table lawful size
      have notices : t.notices = _ := State.presenceTaken_presenceNotices lawful size valid
      rw [table, notices]
  · have session := (s.presenceTaken_validFrame_session h p).trans (SessionController.reports_of_mem listening valid mem)
    obtain ⟨k, le, stepped, passed, stopped⟩ := stepAway_spec (insertAsc Fin.val i s.session.heardSet) 256 s.session.incarnation
    have candidate : (s.session.report i).incarnation =
        stepAway (insertAsc Fin.val i s.session.heardSet) 256 s.session.incarnation := if_neg room.ne
    obtain ⟨j, hj, unheard⟩ := exists_unheard room s.session.incarnation
    have below : k < 256 := lt_of_le_of_ne le fun all => unheard (passed j (all ▸ hj))
    rw [← candidate] at stepped stopped
    refine ⟨_, exec_presence_in_listening takes valid listening, ?_⟩
    rw [session]
    refine ⟨rfl, stopped below, ⟨k, below, stepped, passed⟩, fun free => ?_, listening, rfl, fun m hm source => ?_⟩
    · rw [candidate]
      exact if_neg free
    · rw [State.presenceTaken_heardUs valid listening mem m hm source, decide_eq_false_iff_not]
      intro eq
      exact stopped below (eq ▸ self_mem_insertAsc _ _ _)
  · have session := (s.presenceTaken_validFrame_session h p).trans (SessionController.reports_of_mem listening valid mem)
    have candidate : (s.session.report i).incarnation = s.session.incarnation + 1 := if_pos full
    refine ⟨_, exec_presence_in_listening takes valid listening, session.trans ?_, ?_⟩
    · rw [← candidate]
      rfl
    · rw [← candidate]
      exact State.presenceTaken_heardUs valid listening mem
  · exact ⟨_, exec_presence_in_listening takes valid listening, (s.presenceTaken_validFrame_session h p).trans
      (SessionController.reports_of_absent listening absent)⟩

end Sys2Proof.Machine

/-! PROOFS. Carrier, the quiet gap and activity that is not taken in (R121, R136, R137, R139, R156), and the choice of the first
own frame (R145). -/

namespace Sys2Proof.Machine

/-! ## Spans that the receiver does not take -/

section

variable {s : State} (take : State → State)

theorem State.spanEnds_of_inactive (inactive : s.session.state.receiverActive = false) :
    s.spanEnds take = { s with line := { s.line with phase := s.line.phase.ended } } := by
  rw [State.spanEnds, inactive]
  rfl

theorem State.spanEnds_of_sending (active : s.session.state.receiverActive = true) (sends : s.line.onLine ≠ none) :
    s.spanEnds take = s := by
  have driver : s.driverActive = true := Option.isSome_iff_ne_none.mpr sends
  rw [State.spanEnds, active, driver]
  rfl

theorem State.endUncounted_of_active (active : s.session.state.receiverActive = true) : s.endUncounted =
    { s with line := { s.line with phase := .quiet, roundType := .fixed, carrierInTick := true } } := by
  rw [State.endUncounted, if_pos active]

theorem State.spanEnds_of_uncounted (active : s.session.state.receiverActive = true) (idle : s.line.onLine = none)
    (uncounted : s.line.phase = .activity false) : s.spanEnds take =
      { s with line := { s.line with phase := .quiet, roundType := .fixed, carrierInTick := true } } := by
  rw [State.spanEnds, active, State.driverActive, idle, uncounted]
  exact State.endUncounted_of_active active

end

theorem exec_carrierDetected_of_idle {s : State} (idle : s.line.onLine = none) : exec .carrierDetected s =
    .next { s with
      standing := s.carrierAtRecovery
      line := { s.line with phase := s.line.phase.carrier s.session.state.receiverActive, carrierInTick := true } } :=
  congrArg Host.Outcome.next (if_neg (by simp [State.driverActive, idle]))

theorem exec_quietGapElapsed_of_quiet {s : State} (active : s.session.state.receiverActive = true)
    (idle : s.line.onLine = none) (quiet : s.line.phase = .quiet) :
    exec .quietGapElapsed s = .next { s with line := { s.line with phase := .round 0 } } :=
  congrArg Host.Outcome.next (if_pos (by simp [active, State.driverActive, idle, quiet]))

/-- Settles O34: every frame and every report of activity ends a span. -/
theorem carrierGapAndUncountedActivity : Obligations.CarrierGapAndUncountedActivity := by
  refine ⟨fun s => ⟨fun idle => (exec_carrierDetected_of_idle idle).trans ?_, exec_quietGapElapsed_of_quiet,
    fun uncounted active => ?_⟩, fun c s brought => ?_⟩
  · cases s.line.phase <;> rfl
  · exact congrArg Host.Outcome.next ((if_pos uncounted).trans (State.endUncounted_of_active active))
  · obtain ⟨take, ends⟩ : ∃ take, exec c s = .next (s.spanEnds take) := by
      obtain ⟨f, frame⟩ | ⟨a, rfl⟩ := brought
      · exact ⟨_, exec_frameOf frame s⟩
      · exact ⟨_, rfl⟩
    rw [ends]
    refine ⟨fun inactive => ?_, fun active sends => ?_, fun active idle uncounted => ?_⟩
    · rw [State.spanEnds_of_inactive take inactive]
      cases s.line.phase <;> rfl
    · rw [State.spanEnds_of_sending take active sends]
    · rw [State.spanEnds_of_uncounted take active idle uncounted]

/-! ## The first own frame -/

/-- The classes of R145, in the order in which they are sent. -/
theorem State.slotClass_range {s : State} {n : SlotName} {c : Nat} (class_ : s.slotClass n = some c) :
    c ∈ [1, 2, 3, 4, 5, 6] := by
  cases n with
  | withdraw =>
    obtain ⟨-, ⟨⟩⟩ := Option.ite_none_right_eq_some.mp class_
    simp
  | presence =>
    obtain ⟨-, ⟨⟩⟩ := Option.ite_none_right_eq_some.mp class_
    simp
  | entry r =>
    obtain ⟨e, -, class_⟩ := Option.bind_eq_some_iff.mp class_
    unfold State.requestClass at class_
    split at class_
    · cases class_
    · cases class_; simp
    · cases class_; simp
    · obtain ⟨-, class_⟩ := Option.ite_none_left_eq_some.mp class_
      cases class_; simp
    · cases class_; simp

theorem State.firstOwn_eq_none {s : State} : s.firstOwn = none ↔ ∀ n ∈ s.scheduler.order, s.slotClass n = none := by
  simp only [State.firstOwn, List.findSome?_eq_none_iff, List.find?_eq_none, beq_iff_eq]
  constructor
  · intro unfound n mem
    cases class_ : s.slotClass n with
    | none => rfl
    | some c => exact absurd class_ (unfound c (State.slotClass_range class_) n mem)
  · intro classless c _ n mem eq
    rw [classless n mem] at eq
    cases eq

/-- R145: the first own frame is of the lowest class that waits, and the oldest of its class. -/
theorem State.firstOwn_eq_some {s : State} {n : SlotName} (first : s.firstOwn = some n) : ∃ c before after,
    s.slotClass n = some c ∧ s.scheduler.order = before ++ n :: after ∧ (∀ m ∈ before, s.slotClass m ≠ some c)
      ∧ ∀ m ∈ s.scheduler.order, ∀ d, s.slotClass m = some d → c ≤ d := by
  obtain ⟨lower, c, higher, classes, found, unfound⟩ := List.findSome?_eq_some_iff.mp first
  obtain ⟨class_, before, after, order, older⟩ := List.find?_eq_some_iff_append.mp found
  refine ⟨c, before, after, by simpa using class_, order, fun m mem => by simpa using older m mem, fun m mem d waits => ?_⟩
  have sorted : (lower ++ c :: higher).Pairwise (· < ·) := classes ▸ (by decide : [1, 2, 3, 4, 5, 6].Pairwise (· < ·))
  have inRange : d ∈ lower ++ c :: higher := classes ▸ State.slotClass_range waits
  obtain below | same | above : d ∈ lower ∨ d = c ∨ d ∈ higher := by simpa using inRange
  · exact absurd waits (by simpa using List.find?_eq_none.mp (unfound d below) m mem)
  · exact same.ge
  · exact ((List.pairwise_cons.mp (List.pairwise_append.mp sorted).2.1).1 d above).le

/-- Settles O37. -/
theorem firstOwnFrameByClassAndAge : Obligations.FirstOwnFrameByClassAndAge := by
  refine ⟨fun s => ⟨State.firstOwn_eq_none, fun n => State.firstOwn_eq_some⟩,
    fun s => ⟨rfl, rfl, fun r fresh => ?_, fun r e he => ?_⟩⟩
  · rw [State.slotClass, fresh]
    rfl
  · have class_ : s.slotClass (.entry r) = s.requestClass e := by
      rw [State.slotClass, he]
      rfl
    rw [class_, State.requestClass]
    refine ⟨fun empty => ?_, fun reason free => ?_, fun hold => ?_, fun claim => ?_, fun resend => ?_⟩
    · rw [empty]
    · rw [free]
    · rw [hold]
    · rw [claim]
      have exhausted_iff : exhausted s.claims.clock = true ↔ s.claims.clock = 0xFFFFFFFFFFFF := beq_iff_eq
      simp only [exhausted_iff]
    · rw [resend]

end Sys2Proof.Machine

/-! PROOFS. The own slot of an open round (R13, R114 to R120, R140, R144, R147). -/

namespace Sys2Proof.Machine

theorem State.slotBegins_of_choice {s : State} {c : Choice} (may : s.session.state.maySend = true) (choice : s.choice = some c) :
    s.slotBegins = State.send { s with line := { s.line with phase := .round s.ownSlot } } c s.ownSlot := by
  rw [State.slotBegins, may, choice]
  rfl

/-- Two states that differ at most in the claim table, and do not differ there. -/
theorem State.ext_table {s t : State} (table : s.claims.table = t.claims.table)
    (rest : { s with claims := { s.claims with table := t.claims.table } } = t) : s = t := by
  rw [← rest, ← table]

/-- R147: the kind and the body of the frame that a request of an entry for `r` is sent as. -/
def ClaimEntry.sentAs (e : ClaimEntry) (r : Resource) : Request → SentKind × Body
  | .firstClaim => (.firstClaim, e.claimBody)
  | .resend => (.resend, e.claimBody)
  | .hold => (.hold, .hold r e.seq)
  | .free reason => (.free, .free r e.seq reason)

section

variable {s : State} {r : Resource} {e : ClaimEntry} (he : s.entry? r = some e) (k : Slot)

include he

/-- R13: a frame of an entry that is not QUEUED goes out without a hand-over. -/
theorem State.handOverIfQueued_of_not (stands : e.state ≠ .queued) : s.handOverIfQueued r = s :=
  if_neg (by simp [he, stands])

theorem State.handOverIfQueued_of_first (queued : e.state = .queued) (first : e.slot.unsent = some .firstClaim) :
    s.handOverIfQueued r = s.handOver r := if_pos (by simp [he, queued, first])

/-- R147: what the slot of an entry that is not QUEUED sends. -/
theorem State.sendEntry_of_not_queued (stands : e.state ≠ .queued) {q : Request} (request : e.slot.unsent = some q) :
    s.sendEntry r k = (s.modifyEntry r ClaimEntry.slotSends).startFrame (e.sentAs r q).1 (e.sentAs r q).2 k := by
  cases q <;> simp only [State.sendEntry, State.handOverIfQueued_of_not he stands, he, request, ClaimEntry.sentAs]

/-- R13: the first CLAIM of a QUEUED entry goes out with its hand-over. -/
theorem State.sendEntry_of_queued (queued : e.state = .queued) (first : e.slot.unsent = some .firstClaim) :
    s.sendEntry r k = ((s.handOver r).modifyEntry r ClaimEntry.slotSends).startFrame .firstClaim
      (.claim e.resource e.seq (s.claims.clock + 1)) k := by
  have handed : (s.handOver r).entry? r = some { e with
      state := .wanted, stamp := some (s.claims.clock + 1), awaiting := s.interested r, announced := false, resendDue := none } := by
    rw [State.handOver, State.entry?_modifyEntry _ _ _ _ fun _ => by rfl, if_pos rfl]
    show (s.entry? r).map _ = _
    rw [he]
    rfl
  rw [State.sendEntry, State.handOverIfQueued_of_first he queued first, handed]
  simp only [first]
  rfl

end

/-- Settles O38: the choice is sent as its kind's rule says. -/
theorem ownSlotSendsTheChoice : Obligations.OwnSlotSendsTheChoice := by
  intro k s round idle
  refine ⟨fun passes => ?_, fun may => ⟨fun g choice => ?_, fun choice => ?_, fun choice => ?_,
    fun r e choice he stands => ?_, fun r e choice he queued first => ?_⟩⟩
  · rw [exec_ownSlot_of_round round idle]
    obtain mute | nothing := passes
    · rw [State.slotBegins, mute]
      rfl
    · rw [State.slotBegins_of_nothing nothing]
      rfl
  · rw [exec_ownSlot_of_round round idle, State.slotBegins_of_choice may choice]
    rfl
  · rw [exec_ownSlot_of_round round idle, State.slotBegins_of_choice may choice]
    rfl
  · rw [exec_ownSlot_of_round round idle, State.slotBegins_of_choice may choice]
    rfl
  · let t : State := State.alternate { s with line := { s.line with phase := .round s.ownSlot } } 0
    have sent : exec .ownSlot s = .next (t.sendEntry r s.ownSlot) := by
      rw [exec_ownSlot_of_round round idle, State.slotBegins_of_choice may choice]
      rfl
    refine ⟨fun request => ?_, fun request => ?_, fun request => ?_, fun c request => ?_⟩
    all_goals
      rw [sent, State.sendEntry_of_not_queued (s := t) he s.ownSlot stands request]
      rfl
  · let t : State := State.alternate { s with line := { s.line with phase := .round s.ownSlot } } 0
    have sends := State.sendEntry_of_queued (s := t) he s.ownSlot queued first
    have sent : exec .ownSlot s = .next (t.sendEntry r s.ownSlot) := by
      rw [exec_ownSlot_of_round round idle, State.slotBegins_of_choice may choice]
      rfl
    have table : ((t.handOver r).modifyEntry r ClaimEntry.slotSends).claims.table =
        changeAt r (fun e => { e with
          state := .wanted, stamp := some (s.claims.clock + 1), awaiting := s.interested r, announced := false
          resendDue := none, slot := { onLine := e.slot.unsent, unsent := none } }) s.claims.table :=
      changeAt_changeAt r ClaimEntry.slotSends _ (fun _ => by rfl) s.claims.table
    rw [sent, sends]
    refine congrArg Host.Outcome.next (State.ext_table ?_ ?_)
    · exact table
    · rfl

end Sys2Proof.Machine

/-! PROOFS. Own frames that fail: the read-back, the request that waits again, and silencing (R10, R31, R88, R137, R141, R150,
R153). -/

namespace Sys2Proof.Machine

/-! ## The read-back -/

theorem SentFrame.verdict_differs {f : SentFrame} {r : ReadBack} (mismatch : f.Mismatch r) : f.verdict r = .differs := by
  obtain rfl | ⟨cs, rfl, notRead, notWhole⟩ := mismatch
  · rfl
  · cases verdict : compareCells f.cells cs with
    | differs => exact verdict
    | whole => exact absurd ((compareCells_whole _ _).mp verdict) notWhole
    | soFar => exact absurd ((compareCells_soFar _ _).mp verdict).1 notRead

section

variable {s : State} {f : SentFrame} {r : ReadBack} (onLine : s.line.onLine = some f)

include onLine

theorem exec_sendFault_differs (mismatch : f.Mismatch r) : exec (.sendFault r) s = .next (s.frameReturned f).countSendFault := by
  show Host.Outcome.next (s.readBack r) = _
  rw [State.readBack, onLine]
  simp only [SentFrame.verdict_differs mismatch, State.frameFails_eq]

theorem exec_sendFault_whole {cs : List LineCell} (whole : f.cells <+: cs) :
    exec (.sendFault (.cells cs)) s = exec (completionOf f.kind) s := by
  have verdict : f.verdict (.cells cs) = .whole := (compareCells_whole _ _).mpr whole
  have completes : exec (completionOf f.kind) s = .next (s.completesAs f.kind) := by cases f.kind <;> rfl
  show Host.Outcome.next (s.readBack (.cells cs)) = _
  rw [completes, State.readBack, onLine]
  simp only [verdict]

theorem exec_sendFault_soFar {cs : List LineCell} (read : cs <+: f.cells) (more : cs ≠ f.cells) :
    exec (.sendFault (.cells cs)) s = .next s := by
  have verdict : f.verdict (.cells cs) = .soFar := (compareCells_soFar _ _).mpr ⟨read, more⟩
  show Host.Outcome.next (s.readBack (.cells cs)) = _
  rw [State.readBack, onLine]
  simp only [verdict]

end

theorem exec_sendFault_of_idle {s : State} (idle : s.line.onLine = none) (r : ReadBack) : exec (.sendFault r) s = .next s := by
  show Host.Outcome.next (s.readBack r) = _
  rw [State.readBack, idle]

theorem SentFrame.cells_eq (f : SentFrame) : f.cells = (List.range 16).map (fun i => bitCell (i % 2 == 0))
    ++ [{ first := .pAbove, second := .pAbove }, { first := .nAbove, second := .nAbove }]
    ++ ((frameBytes f.frame).flatMap byteBits).map bitCell
    ++ [{ first := .nAbove, second := .nAbove }, { first := .pAbove, second := .pAbove }] := by
  rw [List.map_flatMap]
  rfl

/-! ## The request that waits again -/

/-- R10, R141: the slot of a frame that failed; a newer request stays. -/
theorem ClaimEntry.slotFails_eq (e : ClaimEntry) : e.slotFails = { e with
    slot := { onLine := none, unsent := if e.slot.unsent = none then e.slot.onLine else e.slot.unsent } } := by
  unfold ClaimEntry.slotFails
  cases unsent : e.slot.unsent <;> rfl

theorem State.frameReturned_seq (s : State) (f : SentFrame) : (s.frameReturned f).claims.seq = s.claims.seq := by
  unfold State.frameReturned State.returnRequest
  dsimp only
  split
  · split <;> rfl
  · rfl

theorem State.frameReturned_of_ranOut {s : State} {f : SentFrame} (ranOut : f.live = false) :
    s.frameReturned f = { s with line := s.line.ownFrameEnds .fixed s.line.base } := by
  rw [State.frameReturned, ranOut]
  rfl

theorem State.frameReturned_of_live {s : State} {f : SentFrame} (live : f.live = true) :
    s.frameReturned f = State.returnRequest { s with line := s.line.ownFrameEnds .fixed s.line.base } f := if_pos live

/-- The request of an entry's frame waits again in its slot. -/
theorem State.returnRequest_of_entry {s : State} {f : SentFrame} {r : Resource} (entry : f.entryResource? = some r) :
    s.returnRequest f = s.modifyEntry r ClaimEntry.slotFails := by
  unfold SentFrame.entryResource? at entry
  unfold State.returnRequest
  cases body : f.frame.body with
  | claim x q t => rw [body] at entry; cases entry; rfl
  | hold x q => rw [body] at entry; cases entry; rfl
  | free x q c => rw [body] at entry; cases entry; rfl
  | presence p => rw [body] at entry; cases entry
  | grant y x q => rw [body] at entry; cases entry
  | withdraw => rw [body] at entry; cases entry

theorem State.countSendFault_of_room {s : State} (stands : s.standing.standing ≠ .silenced)
    (room : s.standing.sendFaults + 6 ≤ 240) :
    s.countSendFault = s.setCounts (s.standing.sendFaults + 6) s.standing.receiveFaults := by
  have below : ¬ Config.faultTop < s.standing.sendFaults + Config.sendFaultWeight := Nat.not_lt.mpr room
  rw [State.countSendFault, if_neg stands, if_neg below]

theorem State.countSendFault_of_full {s : State} (stands : s.standing.standing ≠ .silenced)
    (full : 240 < s.standing.sendFaults + 6) : s.countSendFault = s.silence := by
  have above : Config.faultTop < s.standing.sendFaults + Config.sendFaultWeight := full
  rw [State.countSendFault, if_neg stands, if_pos above]

/-- Settles O39: the request is returned before the fault is counted. -/
theorem sendFaultReturnsTheRequest : Obligations.SendFaultReturnsTheRequest := by
  refine ⟨fun f readBack s onLine mismatch stands room => ?_, fun f cs s onLine => ⟨exec_sendFault_whole onLine,
    exec_sendFault_soFar onLine⟩, fun readBack s idle => exec_sendFault_of_idle idle readBack, SentFrame.cells_eq⟩
  obtain ⟨kept, line, clock⟩ := s.frameReturned_frame f
  have counted := State.countSendFault_of_room (s := s.frameReturned f) (kept.standing ▸ stands) (kept.standing ▸ room)
  rw [kept.standing, State.setCounts_eq, kept.standing, kept.notices] at counted
  have taken := (exec_sendFault_differs onLine mismatch).trans (congrArg Host.Outcome.next counted)
  refine ⟨_, taken, line, rfl, rfl, kept.session, kept.answers, kept.roster, kept.view, kept.link, clock,
    s.frameReturned_seq f, kept.pending, fun ranOut => ?_, fun live => ⟨fun r entry => ?_, fun p body => ?_, fun body => ?_,
      fun x r q body => ?_⟩⟩
  · show (s.frameReturned f).claims = _ ∧ (s.frameReturned f).scheduler = _
    rw [State.frameReturned_of_ranOut ranOut]
    exact ⟨rfl, rfl⟩
  · show (s.frameReturned f).claims.table = _ ∧ (s.frameReturned f).scheduler = _
    rw [State.frameReturned_of_live live, State.returnRequest_of_entry entry]
    refine ⟨?_, rfl⟩
    rw [State.modifyEntry_table]
    simp only [ClaimEntry.slotFails_eq]
  all_goals
    show (s.frameReturned f).claims = _ ∧ (s.frameReturned f).scheduler = _
    rw [State.frameReturned_of_live live, State.returnRequest, body]
    exact ⟨rfl, rfl⟩

/-! ## Silencing -/

/-- What silencing leaves in every state. -/
theorem State.silence_keeps (s : State) : s.silence.line.roundType = s.line.roundType ∧ s.silence.line.base = s.line.base
    ∧ s.silence.claims.clock = s.claims.clock ∧ s.silence.claims.seq = s.claims.seq := by
  unfold State.silence State.takeSilencing
  split <;> exact ⟨rfl, rfl, rfl, rfl⟩

theorem State.silence_of_setup {s : State} (setup : s.session.state = .setup) : s.silence =
    { s with
      standing := { s.standing.noProgress with sendFaults := 240, standing := .silenced }
      notices := s.notices.give (.standing .silenced 240 s.standing.receiveFaults) } := by
  simp only [State.silence, State.takeSilencing, State.give_session, setup]
  rfl

/-- R31, R88: what a session leaves to the block that the silencing ends. -/
structure State.SilencedFrom (s : State) (state : StationState) (t : State) : Prop where
  session : t.session = { s.session with state := state, heardSet := [], joinWindow := none, ownPresence := none }
  table : t.claims.table = []
  answers : t.answers = []
  roster : t.roster = []
  view : t.view = viewUnknown
  scheduler : t.scheduler = .reset
  notices : t.notices = ((s.claims.table.map (clearNotice .silenced)).foldl NoticeQueue.give
    (s.notices.give (.standing .silenced 240 s.standing.receiveFaults))).give (.session state .silenced none)

theorem State.silence_ends {s : State} (runs : s.session.state = .member ∨ s.session.state = .announcing
    ∨ s.session.state = .listening ∨ s.session.state = .leaving) :
    s.SilencedFrom (if s.session.state = .leaving then .setup else .silent) s.silence := by
  rcases runs with state | state | state | state
  all_goals
    simp only [State.silence, State.takeSilencing, State.give_session, state]
    exact ⟨rfl, rfl, rfl, rfl, rfl, rfl, rfl⟩

/-- R31: returning a request does not change what the entries show at session clear. -/
theorem State.frameReturned_clearNotices (s : State) (f : SentFrame) (cause : SessionCause) :
    (s.frameReturned f).claims.table.map (clearNotice cause) = s.claims.table.map (clearNotice cause) := by
  have each (r : Resource) (t : State) :
      (t.modifyEntry r ClaimEntry.slotFails).claims.table.map (clearNotice cause) = t.claims.table.map (clearNotice cause) := by
    rw [State.modifyEntry_table, List.map_map]
    refine List.map_congr_left fun e _ => ?_
    by_cases hr : e.resource = r
    · simp only [Function.comp_apply, if_pos hr]
      rfl
    · simp only [Function.comp_apply, if_neg hr]
  unfold State.frameReturned State.returnRequest
  dsimp only
  split
  · split
    · rfl
    · rfl
    · rfl
    all_goals exact each _ _
  · rfl

/-- Settles O40: the request is returned, and then the session ends in the state then current. -/
theorem silencingEndsTheSession : Obligations.SilencingEndsTheSession := by
  intro f readBack s onLine mismatch stands full
  obtain ⟨kept, line, clock⟩ := s.frameReturned_frame f
  let u := s.frameReturned f
  have taken := (exec_sendFault_differs onLine mismatch).trans (congrArg Host.Outcome.next
    (State.countSendFault_of_full (s := u) (kept.standing ▸ stands) (kept.standing ▸ full)))
  obtain ⟨roundType, base, clock', seq⟩ := u.silence_keeps
  have idle : u.line.onLine = none := by rw [line]; rfl
  have state : u.session.state = s.session.state := by rw [kept.session]
  refine ⟨_, taken, ?_, State.takeSilencing_onLine idle, roundType.trans (by rw [line]; rfl), base.trans (by rw [line]; rfl),
    clock'.trans clock, seq.trans (s.frameReturned_seq f), (State.silence_link _).trans kept.link,
    (State.silence_pending _).trans kept.pending, fun setup => ?_, fun runs => ?_⟩
  · rw [State.silence_standing, kept.standing]
    rfl
  · rw [State.silence_of_setup (state.trans setup)]
    refine ⟨kept.session, ?_, kept.roster⟩
    rw [kept.notices, kept.standing]
  · obtain ⟨session, table, answers, roster, view, scheduler, notices⟩ := State.silence_ends (s := u) (by rw [state]; exact runs)
    rw [state] at session notices
    rw [s.frameReturned_clearNotices f, kept.notices, kept.standing] at notices
    rw [kept.session] at session
    exact ⟨session, table, answers, roster, view, scheduler, notices⟩

end Sys2Proof.Machine

/-! PROOFS. Own frames that complete (R20, R26, R27, R42, R66, R82, R83, R87, R95, R106, R142, R146, R150). -/

namespace Sys2Proof.Machine

/-! ## The completion of each kind, at its owner -/

section

variable {s : State} {f : SentFrame} {r : Resource} {q : ClaimSeq}

theorem exec_completionOf (s : State) (kind : SentKind) : exec (completionOf kind) s = .next (s.completesAs kind) := by
  cases kind <;> rfl

theorem State.Sends.exec_claimResendComplete {stamp : Clock} (h : s.Sends .resend (.claim r q stamp) f) :
    exec .claimResendComplete s = .next (s.frameEnded.resendCompletes r) := by
  have owned : s.completesAs .resend = resendOf f.frame s.frameEnded := h.completes resendOf
  obtain ⟨-, -, body, -⟩ := h
  refine (exec_completionOf s .resend).trans ?_
  rw [owned, resendOf, body]

theorem State.Sends.exec_holdComplete (h : s.Sends .hold (.hold r q) f) :
    exec .holdComplete s = .next (s.frameEnded.slotCompletes r) := by
  have owned : s.completesAs .hold = holdOf f.frame s.frameEnded := h.completes holdOf
  obtain ⟨-, -, body, -⟩ := h
  refine (exec_completionOf s .hold).trans ?_
  rw [owned, holdOf, body]

theorem State.Sends.exec_freeComplete {c : CloseReason} (h : s.Sends .free (.free r q c) f) :
    exec .freeComplete s = .next (s.frameEnded.freeCompletes r) := by
  have owned : s.completesAs .free = freeOf f.frame s.frameEnded := h.completes freeOf
  obtain ⟨-, -, body, -⟩ := h
  refine (exec_completionOf s .free).trans ?_
  rw [owned, freeOf, body]

theorem State.Sends.exec_grantComplete {x : Station} (h : s.Sends .grant (.grant x r q) f) :
    exec .grantComplete s = .next (s.frameEnded.grantCompletes { target := x, resource := r, seq := q }) := by
  have owned : s.completesAs .grant = grantOf f.frame s.frameEnded := h.completes grantOf
  obtain ⟨-, -, body, -⟩ := h
  refine (exec_completionOf s .grant).trans ?_
  rw [owned, grantOf, body]

theorem State.Sends.exec_presenceComplete {p : Presence} (h : s.Sends .presence (.presence p) f) :
    exec .presenceComplete s = .next s.frameEnded.presenceCompletes :=
  (exec_completionOf s .presence).trans (congrArg Host.Outcome.next (h.completes fun _ t => t.presenceCompletes))

theorem State.Sends.exec_withdrawComplete (h : s.Sends .withdraw .withdraw f) :
    exec .withdrawComplete s = .next s.frameEnded.withdrawCompletes :=
  (exec_completionOf s .withdraw).trans (congrArg Host.Outcome.next (h.completes fun _ t => t.withdrawCompletes))

end

/-! ## RESEND, HOLD and GRANT -/

theorem State.resendCompletes_base (s : State) (r : Resource) : s.SameBase (s.resendCompletes r) :=
  (s.slotCompletes_base r).trans ⟨rfl, rfl, rfl, rfl, rfl, rfl, rfl, rfl, fun _ => rfl⟩

theorem State.entry?_resendCompletes (s : State) (r r' : Resource) : (s.resendCompletes r).entry? r' =
    if r' = r then (s.entry? r).map fun e => ClaimEntry.resendDone s.nextResend e.offLine else s.entry? r' := by
  rw [State.resendCompletes_eq, State.entry?_modifyEntry _ _ _ (ClaimEntry.resendDone s.nextResend) fun e => ClaimEntry.awaitNext_resource _ _,
    State.entry?_slotCompletes]
  by_cases hr : r' = r
  · simp only [hr, if_true, Option.map_map]
    rfl
  · simp only [hr, if_false]

/-- Settles O42. -/
theorem resendHoldAndGrantCompletions : Obligations.ResendHoldAndGrantCompletions := by
  refine ⟨fun f r q e s he => ⟨fun stamp sends => ?_, fun sends => ?_⟩, fun f x r q s sends => ?_⟩
  · have he' : s.frameEnded.entry? r = some e := by rw [State.frameEnded_entry?, he]
    have due : s.frameEnded.nextResend = s.session.tick + s.config.reply := by simp [State.nextResend, State.config]
    have entries (r' : Resource) := State.entry?_resendCompletes s.frameEnded r r'
    have base := s.frameEnded.resendCompletes_base r
    refine ⟨_, sends.exec_claimResendComplete, s.completed_frameEnded.base base, ?_, fun r' ne => ?_,
      base.session.trans s.frameEnded_session, base.roster.trans s.frameEnded_roster,
      (State.slotCompletes_answers _ r).trans s.frameEnded_answers, (State.slotCompletes_view _ r).trans s.frameEnded_view,
      base.notices.trans s.frameEnded_notices, (State.slotCompletes_scheduler he').trans (by rw [s.frameEnded_scheduler])⟩
    · rw [entries, if_pos rfl, he', due, Option.map_some]
      refine congrArg some ?_
      unfold ClaimEntry.resendDone ClaimEntry.awaitNext ClaimEntry.offLine
      by_cases awaits : e.state = .wanted ∧ e.awaiting ≠ []
      · rw [if_pos awaits, if_pos awaits]
      · rw [if_neg awaits, if_neg awaits]
    · rw [entries, if_neg ne, State.frameEnded_entry?]
  · have he' : s.frameEnded.entry? r = some e := by rw [State.frameEnded_entry?, he]
    have entries (r' : Resource) := State.entry?_slotCompletes s.frameEnded r r'
    have base := s.frameEnded.slotCompletes_base r
    refine ⟨_, sends.exec_holdComplete, s.completed_frameEnded.base base, ?_, fun r' ne => ?_,
      base.session.trans s.frameEnded_session, base.roster.trans s.frameEnded_roster,
      (State.slotCompletes_answers _ r).trans s.frameEnded_answers, (State.slotCompletes_view _ r).trans s.frameEnded_view,
      base.notices.trans s.frameEnded_notices, (State.slotCompletes_scheduler he').trans (by rw [s.frameEnded_scheduler])⟩
    · rw [entries, if_pos rfl, he']
      rfl
    · rw [entries, if_neg ne, State.frameEnded_entry?]
  · obtain ⟨line, standing, clock, seq, link, pending⟩ := s.completed_frameEnded
    refine ⟨_, sends.exec_grantComplete, ⟨line, standing, clock, seq, link, pending⟩, ?_, s.frameEnded_claims,
      s.frameEnded_session, s.frameEnded_roster, s.frameEnded_view, s.frameEnded_scheduler, s.frameEnded_notices⟩
    rw [State.grantCompletes, s.frameEnded_answers]

/-! ## FREE -/

theorem State.freeCompletes_of_releasing {s : State} {r : Resource} {e : ClaimEntry} {reason : CloseReason}
    (he : s.entry? r = some e) (releasing : e.state = .releasing reason) : s.freeCompletes r =
      if e.wasHeld then ((s.removeEntry r).give (.closed r reason none)).dropOwnHold r
      else (s.removeEntry r).give (.closed r reason none) := by
  simp only [State.freeCompletes, he, releasing]

/-- R106: what leaves the view with an own hold, and its notices. -/
theorem State.dropOwnHold_eq (s : State) (r : Resource) : s.dropOwnHold r =
    { s with
      view := s.view.set r.val ((viewAt s.view r).drop Holder.isOwn)
      notices := (viewNotices [] s.viewWatch 0 s.view (s.view.set r.val ((viewAt s.view r).drop Holder.isOwn))).foldl
        NoticeQueue.give s.notices } := rfl

/-- Settles O43. -/
theorem freeCompletionRemovesTheEntry : Obligations.FreeCompletionRemovesTheEntry := by
  intro f r q c reason e s sends he releasing
  obtain ⟨line, standing, clock, seq, link, pending⟩ := s.completed_frameEnded
  have he' : s.frameEnded.entry? r = some e := by rw [State.frameEnded_entry?, he]
  have idle : s.frameEnded.line.onLine = none := by rw [line]
  have line' := (LineInterface.cutLoose_none idle fun f => f.entryResource? == some r).trans line
  have table : (s.frameEnded.removeEntry r).claims.table = s.claims.table.filter fun x => x.resource != r := by
    rw [State.removeEntry, s.frameEnded_claims]
  have scheduler : (s.frameEnded.removeEntry r).scheduler =
      { s.scheduler with order := s.scheduler.order.filter (· != .entry r) } := by
    rw [State.removeEntry, s.frameEnded_scheduler]
    rfl
  have taken := sends.exec_freeComplete
  rw [State.freeCompletes_of_releasing he' releasing] at taken
  have given : ((s.frameEnded.removeEntry r).give (.closed r reason none)).notices =
      s.countCompleted.notices.give (.closed r reason none) := by
    rw [← s.frameEnded_notices]
    rfl
  cases held : e.wasHeld with
  | true =>
    rw [held, if_pos rfl, State.dropOwnHold_eq, given] at taken
    have view : ((s.frameEnded.removeEntry r).give (.closed r reason none)).view = s.view := s.frameEnded_view
    have watch : ((s.frameEnded.removeEntry r).give (.closed r reason none)).viewWatch = s.viewWatch := s.frameEnded_viewWatch
    rw [view, watch] at taken
    exact ⟨_, taken, ⟨line', standing, clock, seq, link, pending⟩, table, scheduler, s.frameEnded_session,
      s.frameEnded_roster, s.frameEnded_answers, fun _ => ⟨rfl, rfl⟩, fun never => (nomatch never)⟩
  | false =>
    rw [held, if_neg (nomatch ·)] at taken
    exact ⟨_, taken, ⟨line', standing, clock, seq, link, pending⟩, table, scheduler, s.frameEnded_session,
      s.frameEnded_roster, s.frameEnded_answers, fun never => (nomatch never), fun _ => ⟨s.frameEnded_view, given⟩⟩

/-! ## PRESENCE and WITHDRAW -/

theorem State.presenceCompletes_of_announcing {s : State} (announcing : s.session.state = .announcing) :
    s.presenceCompletes = s.presenceTimers.enterState .member .announced none := by
  rw [State.presenceCompletes, announcing]

theorem State.presenceCompletes_of_member {s : State} (member : s.session.state = .member) :
    s.presenceCompletes = s.presenceTimers := by
  rw [State.presenceCompletes, member]

theorem State.withdrawCompletes_of_leaving {s : State} (leaving : s.session.state = .leaving) : s.withdrawCompletes =
    { s with
      scheduler := s.scheduler.withdrawDone, roster := [], view := viewUnknown
      line := { s.line with phase := s.line.phase.uncount }
      session := { s.session with state := .setup }
      notices := s.notices.give (.session .setup .withdrawn none) } := if_pos leaving

theorem State.frameEnded_config (s : State) : s.frameEnded.config = s.config := by simp [State.config]

/-- Settles O44: the timers start, and in ANNOUNCING and LEAVING the station state moves on. -/
theorem presenceAndWithdrawCompletions : Obligations.PresenceAndWithdrawCompletions := by
  refine ⟨fun f p s sends runs => ?_, fun f s sends leaving => ?_⟩
  · obtain ⟨line, standing, clock, seq, link, pending⟩ := s.completed_frameEnded
    have taken := sends.exec_presenceComplete
    have scheduler : s.frameEnded.presenceTimers.scheduler = { s.scheduler with
        presence := .empty, order := s.scheduler.order.filter (· != .presence), presenceDue := some s.config.periodMs } := by
      rw [State.presenceTimers, s.frameEnded_scheduler, s.frameEnded_config]
      rfl
    obtain announcing | member := runs
    · rw [State.presenceCompletes_of_announcing ((congrArg _ s.frameEnded_session).trans announcing)] at taken
      refine ⟨_, taken, ⟨line, standing, clock, seq, link, pending⟩, ?_, scheduler, ?_, s.frameEnded_claims,
        s.frameEnded_answers, s.frameEnded_roster, s.frameEnded_view⟩
      · show ({ s.frameEnded.session with state := .member, ownPresence := some 0 } : SessionController) = _
        rw [s.frameEnded_session]
      · rw [if_pos announcing, ← s.frameEnded_notices]
        rfl
    · rw [State.presenceCompletes_of_member ((congrArg _ s.frameEnded_session).trans member)] at taken
      refine ⟨_, taken, ⟨line, standing, clock, seq, link, pending⟩, ?_, scheduler, ?_, s.frameEnded_claims,
        s.frameEnded_answers, s.frameEnded_roster, s.frameEnded_view⟩
      · show ({ s.frameEnded.session with ownPresence := some 0 } : SessionController) = _
        rw [s.frameEnded_session, ← member]
      · rw [if_neg (by rw [member]; exact (nomatch ·))]
        exact s.frameEnded_notices
  · obtain ⟨line, standing, clock, seq, link, pending⟩ := s.completed_frameEnded
    have taken := sends.exec_withdrawComplete
    rw [State.withdrawCompletes_of_leaving ((congrArg _ s.frameEnded_session).trans leaving)] at taken
    refine ⟨_, taken, ⟨?_, standing, clock, seq, link, pending⟩, ?_, rfl, rfl, ?_, ?_, s.frameEnded_claims, s.frameEnded_answers⟩
    · rw [line]
      rfl
    · rw [s.frameEnded_session]
    · rw [s.frameEnded_scheduler]
      rfl
    · rw [s.frameEnded_notices]

/-- Settles O45. -/
theorem frameThatRanOutReachesNoBlock : Obligations.FrameThatRanOutReachesNoBlock := by
  refine ⟨fun f s onLine ranOut => ?_, fun s => ⟨fun silenced => ?_, fun stands => ?_⟩⟩
  · have ended : s.completesAs f.kind = s.frameEnded := by
      unfold State.completesAs
      split
      all_goals
        rename_i kind
        simp [State.completes, onLine, kind, ranOut, State.frameEnded]
    refine ⟨s.frameEnded, (exec_completionOf s f.kind).trans (by rw [ended]), s.completed_frameEnded, s.frameEnded_claims,
      s.frameEnded_session, s.frameEnded_answers, s.frameEnded_roster, s.frameEnded_view, s.frameEnded_scheduler,
      s.frameEnded_notices⟩
  · rw [State.countCompleted, if_pos silenced]
  · rw [State.countCompleted, if_neg stands, State.setCounts_notices]

end Sys2Proof.Machine

/-! PROOFS. The expiries, each where its time has been reached (R19, R21, R60, R81, R83, R85, R107, R113, R146, R156, R157). -/

namespace Sys2Proof.Machine

/-! ## The join window, the own presence and the PRESENCE due timer -/

theorem ViewEntry.endWindow_eq (v : ViewEntry) : v.endWindow = if v = .unknown then .free else v := by
  cases v <;> rfl

theorem SendScheduler.requestPresence_of_empty {c : SendScheduler} (empty : c.presence = .empty) : c.requestPresence =
    { c with presence := .unsent, order := c.order.filter (· != .presence) ++ [.presence] } := if_pos empty

/-- R107: at the end of the join window an UNKNOWN entry becomes FREE. -/
theorem endWindow_view (v : List ViewEntry) : v.map ViewEntry.endWindow = v.map fun e => if e = .unknown then .free else e :=
  List.map_congr_left fun e _ => e.endWindow_eq

/-- Settles O46. -/
theorem joinWindowEndFollowsTheRole : Obligations.JoinWindowEndFollowsTheRole := by
  intro s listening window empty
  refine ⟨fun contender => congrArg Host.Outcome.next ?_, fun observer => congrArg Host.Outcome.next ?_⟩
  · simp only [State.joinWindowEnd, listening, window, and_self, if_true, contender,
      SendScheduler.requestPresence_of_empty empty, ← endWindow_view]
    rfl
  · simp only [State.joinWindowEnd, listening, window, and_self, if_true, observer, ← endWindow_view]
    rfl

/-- Settles O47. -/
theorem ownPresenceLapseEndsTheSession : Obligations.OwnPresenceLapseEndsTheSession := by
  intro n s member own reached
  have due : s.ownPresenceReached = true := by
    have limit : s.config.lapseMs ≤ n := reached
    simp [State.ownPresenceReached, member, own, limit]
  have lapses : s.ownPresenceLapse = s.lapse none := if_pos due
  refine congrArg Host.Outcome.next (lapses.trans ?_)
  rw [State.lapse_eq]
  rfl

/-- Settles O50. -/
theorem presenceDueAndQuietRecovery : Obligations.PresenceDueAndQuietRecovery := by
  intro s
  refine ⟨fun due empty => congrArg Host.Outcome.next ?_, fun silent reached => congrArg Host.Outcome.next ?_⟩
  · have expires : s.presenceStep = { s with scheduler := { s.scheduler with presenceDue := none }.requestPresence } := if_pos due
    rw [expires, SendScheduler.requestPresence_of_empty (by exact empty)]
  · have quiet : s.quietReached = true := by
      have limit : s.config.recoveryMs ≤ s.standing.recoveryQuiet := reached
      simp [State.quietReached, silent, limit]
    have recovers : s.recoveryStep = s.completeRecovery := if_pos quiet
    exact recovers.trans rfl

/-! ## Losses -/

/-- Settles O48. -/
theorem lossPurgesTheLowestMember : Obligations.LossPurgesTheLowestMember := by
  intro before after m s
  refine ⟨fun roster due first => congrArg Host.Outcome.next (State.lossStep_due roster due first),
    fun r roster met notDue first => congrArg Host.Outcome.next ?_,
    fun quiet => congrArg Host.Outcome.next (State.lossStep_of_none quiet)⟩
  exact (State.lossStep_met roster met notDue first).trans (State.dropMetHold_eq s m.station r)

/-! ## Patience and re-sends -/

/-- The first entry of a table that a predicate names. -/
theorem find?_first {p : ClaimEntry → Bool} {before after : List ClaimEntry} {e : ClaimEntry} (here : p e = true)
    (earlier : ∀ x ∈ before, p x = false) : (before ++ e :: after).find? p = some e := by
  rw [List.find?_append, List.find?_eq_none.mpr fun x mem => by simp [earlier x mem], List.find?_cons_of_pos here]
  rfl

theorem ClaimEntry.expires_iff {tick : Nat} {e : ClaimEntry} : e.expires tick = true ↔
    (e.state = .queued ∨ e.state = .wanted) ∧ ∃ d, e.patience = some d ∧ d ≤ tick := by
  unfold ClaimEntry.expires ClaimEntry.patienceReached
  cases e.patience <;> simp

theorem ClaimEntry.resends_iff {tick : Nat} {e : ClaimEntry} : e.resends tick = true ↔
    e.state = .wanted ∧ e.announced = true ∧ e.awaiting ≠ []
      ∧ (e.resendDue = some .now ∨ ∃ d, e.resendDue = some (.atTick d) ∧ d ≤ tick) := by
  unfold ClaimEntry.resends ClaimEntry.resendReached
  cases e.resendDue with
  | none => simp
  | some due => cases due <;> simp [and_assoc]

/-- Placing a re-send reaches the claim table and the Send Scheduler alone. -/
theorem State.placeResend_eq (s : State) (r : Resource) : s.placeResend r = { s with
    claims := { s.claims with table := (s.placeResend r).claims.table }, scheduler := (s.placeResend r).scheduler } := by
  unfold State.placeResend
  split
  · rfl
  · dsimp only
    split <;> rfl

/-- A change at the resource of one entry of an ordered table changes that entry alone. -/
theorem changeAt_split {before after : List ClaimEntry} {e : ClaimEntry}
    (ascends : Ascending (fun e : ClaimEntry => e.resource.val) (before ++ e :: after)) (f : ClaimEntry → ClaimEntry) :
    changeAt e.resource f (before ++ e :: after) = before ++ f e :: after := by
  obtain ⟨-, later, earlier⟩ := List.pairwise_append.mp ascends
  have first : changeAt e.resource f before = before := changeAt_id fun x mem same =>
    absurd (congrArg Fin.val same) (earlier x mem e (List.mem_cons_self ..)).ne
  have last : changeAt e.resource f after = after := changeAt_id fun x mem same =>
    absurd (congrArg Fin.val same) ((List.pairwise_cons.mp later).1 x mem).ne'
  rw [changeAt, List.map_append, List.map_cons, if_pos rfl]
  exact congrArg₂ _ first (congrArg _ last)

/-- Settles O49: the first entry that the expiry names is the one whose deadline or due time is reached. -/
theorem patienceExpiryAndResendDue : Obligations.PatienceExpiryAndResendDue := by
  refine ⟨fun before after e d s table patience reached earlier => ?_,
    fun before after e d s lawful table wanted announced due reached earlier => ?_⟩
  · have found (state : e.state = .queued ∨ e.state = .wanted) : exec .patienceExpiry s = .next (s.expireEntry e) := by
      have first : s.claims.table.find? (ClaimEntry.expires s.session.tick) = some e := by
        rw [table]
        refine find?_first (ClaimEntry.expires_iff.mpr ⟨state, d, patience, reached⟩) fun x mem => ?_
        refine Bool.eq_false_iff.mpr fun expires => ?_
        obtain ⟨-, d', patience', reached'⟩ := ClaimEntry.expires_iff.mp expires
        exact absurd reached' (Nat.not_le.mpr (earlier x mem d' patience'))
      show Host.Outcome.next s.patienceStep = _
      rw [State.patienceStep, first]
    refine ⟨fun queued => (found (.inl queued)).trans ?_, fun wanted => (found (.inr wanted)).trans ?_⟩
    · rw [State.expireEntry, if_pos queued]
      rfl
    · rw [State.expireEntry, if_neg (by rw [wanted]; exact (nomatch ·))]
  · have mem : e ∈ s.claims.table := by rw [table]; simp
    have awaits : e.awaiting ≠ [] := (lawful.entries e mem).wantedAwaits wanted announced
    have first : s.claims.table.find? (ClaimEntry.resends s.session.tick) = some e := by
      rw [table]
      refine find?_first (ClaimEntry.resends_iff.mpr ⟨wanted, announced, awaits, .inr ⟨d, due, reached⟩⟩) fun x mem => ?_
      refine Bool.eq_false_iff.mpr fun resends => ?_
      obtain ⟨-, -, -, dueNow⟩ := ClaimEntry.resends_iff.mp resends
      obtain absent | ⟨k, later, above⟩ := earlier x mem
      · rw [absent] at dueNow
        simp at dueNow
      · rw [later] at dueNow
        simp only [Option.some.injEq, reduceCtorEq, false_or, ResendDue.atTick.injEq, exists_eq_left'] at dueNow
        omega
    have placed : exec .resendDue s = .next (s.placeResend e.resource) := by
      show Host.Outcome.next s.resendStep = _
      rw [State.resendStep, first]
    rw [placed, State.placeResend_eq, State.placeResend_table lawful.keyed,
      State.placeResend_scheduler (lawful.keyed.entry?_of_mem mem), table, changeAt_split (table ▸ lawful.ascends)]
    rfl

end Sys2Proof.Machine

/-! PROOFS. Signal cells: what the cells between two delimiters give (R122, R133 to R135, R190). -/

namespace Sys2Proof.Machine

/-! ## Spans of cells -/

/-- Cells of bits, a start delimiter, and then what follows. -/
theorem bitsOfSpan_start (before : List Bool) (rest : List LineCell) :
    bitsOfSpan (before.map bitCell ++ [heldP, heldN] ++ rest) = bitsToEnd rest := by
  rw [List.append_assoc, List.cons_append, bitsOfSpan_bits]
  exact bitsOfSpan_startDelimiter rest

/-- R134, R135: the bytes between the delimiters. -/
theorem framedBytes_of_delimited (before : List Bool) (bytes : List Byte) (rest : List LineCell) :
    framedBytes (before.map bitCell ++ [heldP, heldN] ++ (bytes.flatMap byteBits).map bitCell ++ [heldN, heldP] ++ rest) =
      some bytes := by
  have bits : bitsOfSpan (before.map bitCell ++ [heldP, heldN] ++ ((bytes.flatMap byteBits).map bitCell
      ++ heldN :: heldP :: rest)) = some (bytes.flatMap byteBits) := by
    rw [bitsOfSpan_start, bitsToEnd_bits, bitsToEnd_endDelimiter, Option.map_some, List.append_nil]
  have span : before.map bitCell ++ [heldP, heldN] ++ (bytes.flatMap byteBits).map bitCell ++ [heldN, heldP] ++ rest =
      before.map bitCell ++ [heldP, heldN] ++ ((bytes.flatMap byteBits).map bitCell ++ heldN :: heldP :: rest) := by
    simp only [List.append_assoc, List.cons_append, List.nil_append]
  rw [framedBytes, span, bits, Option.bind_some, bytesOfBits_byteBits]

theorem framedBytes_of_noStart (before : List Bool) : framedBytes (before.map bitCell) = none := by
  rw [framedBytes, bitsOfSpan_onlyBits]
  rfl

theorem framedBytes_of_noEnd (before bits : List Bool) :
    framedBytes (before.map bitCell ++ [heldP, heldN] ++ bits.map bitCell) = none := by
  rw [framedBytes, bitsOfSpan_start, bitsToEnd_onlyBits]
  rfl

/-- R122: a code violation between the delimiters. -/
theorem framedBytes_of_violation (before bits : List Bool) {c : LineCell} (rest : List LineCell) (violation : ∀ b, c ≠ bitCell b)
    (noEnd : c ≠ heldN ∨ rest.head? ≠ some heldP) :
    framedBytes (before.map bitCell ++ [heldP, heldN] ++ bits.map bitCell ++ c :: rest) = none := by
  rw [framedBytes, List.append_assoc, bitsOfSpan_start, bitsToEnd_bits,
    bitsToEnd_violation rest (bitOfCell_eq_none.mpr violation) noEnd]
  rfl

/-- R134: the preamble is cells of bits. -/
theorem framedBytes_frameCells (f : Frame) : framedBytes (frameCells f) = some (frameBytes f) := by
  have delimited := framedBytes_of_delimited ((List.range 16).map fun i => i % 2 == 0) (frameBytes f) []
  rw [List.append_nil, List.map_map, List.map_flatMap] at delimited
  exact delimited

end Sys2Proof.Machine

/-! PROOFS. The bytes of a frame and the frame that they spell (R122, R123, R190). -/

namespace Sys2Proof.Machine

/-! ## Numbers in bytes -/

theorem bytesBE_length (n x : Nat) : (bytesBE n x).length = n := by
  induction n with
  | zero => rfl
  | succ n ih => simp [bytesBE, ih]

theorem foldl_bytes (bs : List Byte) (acc : Nat) :
    bs.foldl (fun acc b => acc * 256 + b.toNat) acc = acc * 256 ^ bs.length + ofBytesBE bs := by
  induction bs generalizing acc with
  | nil => simp [ofBytesBE]
  | cons b bs ih =>
    have step : ofBytesBE (b :: bs) = (0 * 256 + b.toNat) * 256 ^ bs.length + ofBytesBE bs := ih _
    rw [List.foldl_cons, ih, step, List.length_cons, pow_succ]
    ring

theorem ofBytesBE_cons (b : Byte) (bs : List Byte) : ofBytesBE (b :: bs) = b.toNat * 256 ^ bs.length + ofBytesBE bs :=
  (foldl_bytes bs (0 * 256 + b.toNat)).trans (by rw [Nat.zero_mul, Nat.zero_add])

theorem ofBytesBE_lt (bs : List Byte) : ofBytesBE bs < 256 ^ bs.length := by
  induction bs with
  | nil => simp [ofBytesBE]
  | cons b bs ih =>
    have small : b.toNat + 1 ≤ 256 := b.isLt
    calc ofBytesBE (b :: bs) = b.toNat * 256 ^ bs.length + ofBytesBE bs := ofBytesBE_cons b bs
      _ < (b.toNat + 1) * 256 ^ bs.length := by rw [Nat.add_mul, Nat.one_mul]; exact Nat.add_lt_add_left ih _
      _ ≤ 256 * 256 ^ bs.length := Nat.mul_le_mul_right _ small
      _ = 256 ^ (b :: bs).length := by rw [List.length_cons, pow_succ, Nat.mul_comm]

/-- Digits above those that are written do not matter. -/
theorem bytesBE_add_mul {n m : Nat} (le : n ≤ m) (a x : Nat) : bytesBE n (a * 256 ^ m + x) = bytesBE n x := by
  induction n with
  | zero => rfl
  | succ n ih =>
    have power : 256 ^ m = 256 ^ (m - n - 1) * 256 * 256 ^ n := by
      rw [Nat.mul_assoc, ← pow_succ', ← pow_add]
      congr 1
      omega
    have head : (a * 256 ^ m + x) / 256 ^ n = x / 256 ^ n + 256 * (a * 256 ^ (m - n - 1)) := by
      rw [power, show a * (256 ^ (m - n - 1) * 256 * 256 ^ n) + x = x + 256 ^ n * (256 * (a * 256 ^ (m - n - 1))) by ring,
        Nat.add_mul_div_left _ _ (by positivity)]
    rw [bytesBE, bytesBE, ih (Nat.le_of_succ_le le), head]
    congr 1
    exact BitVec.eq_of_toNat_eq (by simp [BitVec.toNat_ofNat])

theorem bytesBE_ofBytesBE (bs : List Byte) : bytesBE bs.length (ofBytesBE bs) = bs := by
  induction bs with
  | nil => rfl
  | cons b bs ih =>
    rw [ofBytesBE_cons, List.length_cons, bytesBE, bytesBE_add_mul (le_refl _), ih, Nat.mul_comm,
      Nat.mul_add_div (by positivity), Nat.div_eq_of_lt (ofBytesBE_lt bs), Nat.add_zero, BitVec.ofNat_toNat, BitVec.setWidth_eq]

theorem ofBytesBE_bytesBE (n x : Nat) : ofBytesBE (bytesBE n x) = x % 256 ^ n := by
  induction n with
  | zero => simp [bytesBE, ofBytesBE, Nat.mod_one]
  | succ n ih =>
    have digits : x % 256 ^ (n + 1) = x % 256 ^ n + 256 ^ n * (x / 256 ^ n % 256) := by rw [pow_succ, Nat.mod_mul]
    rw [bytesBE, ofBytesBE_cons, ih, bytesBE_length, BitVec.toNat_ofNat, digits, Nat.add_comm, Nat.mul_comm]

/-- R190: a field of whole bytes holds the number that its bytes spell. -/
theorem field_eq_iff {w n : Nat} (width : 2 ^ w = 256 ^ n) {bs : List Byte} (length : bs.length = n) {x : BitVec w} :
    BitVec.ofNat w (ofBytesBE bs) = x ↔ bs = bytesBE n x.toNat := by
  subst length
  have small : ofBytesBE bs < 2 ^ w := width ▸ ofBytesBE_lt bs
  constructor
  · rintro rfl
    rw [BitVec.toNat_ofNat, Nat.mod_eq_of_lt small, bytesBE_ofBytesBE]
  · intro spelled
    rw [spelled, ofBytesBE_bytesBE, ← width, Nat.mod_eq_of_lt x.isLt, BitVec.ofNat_toNat, BitVec.setWidth_eq]

theorem numberOfByte_eq_iff {b : Byte} {x : Fin 256} : numberOfByte b = x ↔ b = byteOf x.val := by
  have hx := x.isLt
  constructor
  · rintro rfl
    exact BitVec.eq_of_toNat_eq (by simp [numberOfByte, byteOf])
  · rintro rfl
    exact Fin.ext (by simp [numberOfByte, byteOf])

/-- R190: bits 7 to 5 of a station byte are not read. -/
theorem stationOfByte_eq_iff {b : Byte} {x : Station} : stationOfByte b = x ↔ b.toNat % 32 = (byteOf x.val).toNat := by
  have hx := x.isLt
  have spelled : (byteOf x.val).toNat = x.val := by simp [byteOf]; omega
  rw [spelled, Fin.ext_iff, stationOfByte]

theorem advertisedOfByte_eq_iff {b : Byte} {st : AdvertisedStanding} : advertisedOfByte b = some st ↔ b = advertisedCode st := by
  revert b
  cases st <;> decide

theorem reasonOfByte_eq_iff {b : Byte} {c : CloseReason} : reasonOfByte b = some c ↔ b = closeCode c := by
  revert b
  cases c <;> decide

/-! ## Bytes that spell others -/

/-- R190: a received byte spells a byte of a layout, of which bits 7 to 5 are not read where it is marked as a station byte. -/
def ByteSpells (b : Byte) (m : Byte × Bool) : Prop := b = m.1 ∨ m.2 = true ∧ b.toNat % 32 = m.1.toNat

/-- Bytes of a layout that are read whole. -/
def exactly (bs : List Byte) : List (Byte × Bool) := bs.map fun b => (b, false)

/-- The heard pairs of a layout, the station bytes marked. -/
def heardMarked (l : List (Station × Incarnation)) : List (Byte × Bool) :=
  l.flatMap fun q => [(byteOf q.1.val, true), (byteOf q.2.val, false)]

/-- The bytes of a body, the station bytes marked. -/
def bodyMarked : Body → List (Byte × Bool)
  | .presence p =>
    exactly (bytesBE 2 p.interest.toNat ++ [advertisedCode p.standing, byteOf p.heard.length, byteOf p.held.length])
      ++ heardMarked p.heard ++ exactly (heldBytes p.held)
  | .claim r q t => exactly (bodyBytes (.claim r q t))
  | .grant x r q => [(byteOf x.val, true), (byteOf r.val, false), (byteOf q.val, false)]
  | .hold r q => exactly (bodyBytes (.hold r q))
  | .free r q reason => exactly (bodyBytes (.free r q reason))
  | .withdraw => exactly (bodyBytes .withdraw)

/-- Header and body, the station bytes of the body marked. -/
def payloadMarked (f : Frame) : List (Byte × Bool) := exactly (headerBytes (bodyKind f.body) f.header) ++ bodyMarked f.body

theorem exactly_bytes (bs : List Byte) : (exactly bs).map Prod.fst = bs := by simp [exactly, Function.comp_def]

theorem heardMarked_bytes (l : List (Station × Incarnation)) : (heardMarked l).map Prod.fst = heardBytes l := by
  simp [heardMarked, heardBytes, List.map_flatMap]

theorem bodyMarked_bytes (body : Body) : (bodyMarked body).map Prod.fst = bodyBytes body := by
  cases body with
  | presence p => rw [bodyMarked, List.map_append, List.map_append, exactly_bytes, heardMarked_bytes, exactly_bytes]; rfl
  | grant x r q => rfl
  | claim r q t => exact exactly_bytes _
  | hold r q => exact exactly_bytes _
  | free r q reason => exact exactly_bytes _
  | withdraw => rfl

theorem payloadMarked_bytes (f : Frame) : (payloadMarked f).map Prod.fst = payloadBytes f := by
  rw [payloadMarked, List.map_append, exactly_bytes, bodyMarked_bytes]
  rfl

theorem byteSpells_exact {b c : Byte} : ByteSpells b (c, false) ↔ b = c := by simp [ByteSpells]

theorem byteSpells_station {b : Byte} {x : Station} : ByteSpells b (byteOf x.val, true) ↔ stationOfByte b = x := by
  have hx := x.isLt
  rw [stationOfByte_eq_iff, ByteSpells]
  constructor
  · rintro (rfl | ⟨-, same⟩)
    · simp only [byteOf, BitVec.toNat_ofNat]
      omega
    · exact same
  · exact fun same => .inr ⟨rfl, same⟩

theorem spells_exactly {bs cs : List Byte} : List.Forall₂ ByteSpells bs (exactly cs) ↔ bs = cs := by
  rw [exactly, List.forall₂_map_right_iff]
  simp only [byteSpells_exact, List.forall₂_eq_eq_eq]

theorem spells_append {bs : List Byte} {l m : List (Byte × Bool)} : List.Forall₂ ByteSpells bs (l ++ m) ↔
    List.Forall₂ ByteSpells (bs.take l.length) l ∧ List.Forall₂ ByteSpells (bs.drop l.length) m := by
  constructor
  · exact fun spells => ⟨List.forall₂_take_append _ _ _ spells, List.forall₂_drop_append _ _ _ spells⟩
  · rintro ⟨first, second⟩
    rw [← List.take_append_drop l.length bs]
    exact List.rel_append first second

/-- The bytes of a layout spell it. -/
theorem spells_self (l : List (Byte × Bool)) : List.Forall₂ ByteSpells (l.map Prod.fst) l := by
  rw [List.forall₂_map_left_iff, List.forall₂_same]
  exact fun m _ => .inl rfl

/-! ## Bodies -/

theorem spells_heard {bs : List Byte} {l : List (Station × Incarnation)} :
    List.Forall₂ ByteSpells bs (heardMarked l) ↔ bs.length = 2 * l.length ∧ heardOfBytes bs = l := by
  induction l generalizing bs with
  | nil =>
    rw [show heardMarked [] = [] from rfl, List.forall₂_nil_right_iff]
    exact ⟨fun empty => by rw [empty]; exact ⟨rfl, rfl⟩, fun both => List.length_eq_zero_iff.mp both.1⟩
  | cons q l ih =>
    rw [show heardMarked (q :: l) = (byteOf q.1.val, true) :: (byteOf q.2.val, false) :: heardMarked l from rfl]
    match bs with
    | [] => simp
    | [a] => simp; omega
    | a :: b :: rest =>
      have lengths : (a :: b :: rest).length = 2 * (q :: l).length ↔ rest.length = 2 * l.length := by
        simp only [List.length_cons]
        omega
      rw [List.forall₂_cons, List.forall₂_cons, byteSpells_station, byteSpells_exact, ih, lengths, heardOfBytes,
        List.cons.injEq, Prod.mk.injEq, ← numberOfByte_eq_iff]
      tauto

theorem heldBytes_eq_iff {bs : List Byte} {l : List Resource} : bs = heldBytes l ↔ bs.map numberOfByte = l := by
  constructor
  · rintro rfl
    have each (r : Resource) : numberOfByte (byteOf r.val) = r := numberOfByte_eq_iff.mpr rfl
    simp [heldBytes, Function.comp_def, each]
  · rintro rfl
    have each (b : Byte) : byteOf (numberOfByte b).val = b := (numberOfByte_eq_iff.mp rfl).symm
    simp [heldBytes, Function.comp_def, each]

theorem bodyOfBytes_claim {bs : List Byte} {body : Body} : bodyOfBytes 2 bs = some body ↔
    ∃ r q t, body = .claim r q t ∧ bs = bodyBytes (.claim r q t) := by
  match bs with
  | [] =>
    have nothing : bodyOfBytes 2 [] = none := rfl
    simp [nothing, bodyBytes]
  | [a] =>
    have nothing : bodyOfBytes 2 [a] = none := rfl
    simp [nothing, bodyBytes]
  | a :: b :: stamp =>
    have decoded : bodyOfBytes 2 (a :: b :: stamp) =
        if stamp.length = 6 then some (.claim (numberOfByte a) (numberOfByte b) (clockOfBytes stamp)) else none := rfl
    have layout (r : Resource) (q : ClaimSeq) (t : Clock) : a :: b :: stamp = bodyBytes (.claim r q t) ↔
        a = byteOf r.val ∧ b = byteOf q.val ∧ stamp = bytesBE 6 t.toNat := by simp [bodyBytes]
    simp only [decoded, layout, ← numberOfByte_eq_iff]
    constructor
    · intro spelled
      obtain ⟨length, ⟨⟩⟩ := Option.ite_none_right_eq_some.mp spelled
      exact ⟨_, _, _, rfl, rfl, rfl, (field_eq_iff (w := 48) (by norm_num) length).mp rfl⟩
    · rintro ⟨r, q, t, rfl, rfl, rfl, rfl⟩
      rw [if_pos (bytesBE_length 6 _), clockOfBytes, (field_eq_iff (w := 48) (by norm_num) (bytesBE_length 6 _)).mpr rfl]

theorem bodyOfBytes_grant {bs : List Byte} {body : Body} : bodyOfBytes 3 bs = some body ↔
    ∃ x r q, body = .grant x r q ∧ List.Forall₂ ByteSpells bs (bodyMarked (.grant x r q)) := by
  match bs with
  | [] =>
    have nothing : bodyOfBytes 3 [] = none := rfl
    simp [nothing, bodyMarked]
  | [a] =>
    have nothing : bodyOfBytes 3 [a] = none := rfl
    simp [nothing, bodyMarked]
  | [a, b] =>
    have nothing : bodyOfBytes 3 [a, b] = none := rfl
    simp [nothing, bodyMarked]
  | [a, b, c] =>
    have decoded : bodyOfBytes 3 [a, b, c] = some (.grant (stationOfByte a) (numberOfByte b) (numberOfByte c)) := rfl
    simp only [decoded, bodyMarked, List.forall₂_cons, List.Forall₂.nil, and_true, byteSpells_station, byteSpells_exact,
      ← numberOfByte_eq_iff, Option.some.injEq]
    constructor
    · rintro rfl
      exact ⟨_, _, _, rfl, rfl, rfl, rfl⟩
    · rintro ⟨x, r, q, rfl, rfl, rfl, rfl⟩
      rfl
  | a :: b :: c :: d :: rest =>
    have nothing : bodyOfBytes 3 (a :: b :: c :: d :: rest) = none := rfl
    simp [nothing, bodyMarked]

theorem bodyOfBytes_hold {bs : List Byte} {body : Body} : bodyOfBytes 4 bs = some body ↔
    ∃ r q, body = .hold r q ∧ bs = bodyBytes (.hold r q) := by
  match bs with
  | [] =>
    have nothing : bodyOfBytes 4 [] = none := rfl
    simp [nothing, bodyBytes]
  | [a] =>
    have nothing : bodyOfBytes 4 [a] = none := rfl
    simp [nothing, bodyBytes]
  | [a, b] =>
    have decoded : bodyOfBytes 4 [a, b] = some (.hold (numberOfByte a) (numberOfByte b)) := rfl
    have layout (r : Resource) (q : ClaimSeq) : [a, b] = bodyBytes (.hold r q) ↔ numberOfByte a = r ∧ numberOfByte b = q := by
      simp [bodyBytes, numberOfByte_eq_iff]
    simp only [decoded, layout, Option.some.injEq]
    constructor
    · rintro rfl
      exact ⟨_, _, rfl, rfl, rfl⟩
    · rintro ⟨r, q, rfl, rfl, rfl⟩
      rfl
  | a :: b :: c :: rest =>
    have nothing : bodyOfBytes 4 (a :: b :: c :: rest) = none := rfl
    simp [nothing, bodyBytes]

theorem bodyOfBytes_free {bs : List Byte} {body : Body} : bodyOfBytes 5 bs = some body ↔
    ∃ r q c, body = .free r q c ∧ bs = bodyBytes (.free r q c) := by
  match bs with
  | [] =>
    have nothing : bodyOfBytes 5 [] = none := rfl
    simp [nothing, bodyBytes]
  | [a] =>
    have nothing : bodyOfBytes 5 [a] = none := rfl
    simp [nothing, bodyBytes]
  | [a, b] =>
    have nothing : bodyOfBytes 5 [a, b] = none := rfl
    simp [nothing, bodyBytes]
  | [a, b, d] =>
    have decoded : bodyOfBytes 5 [a, b, d] =
        (reasonOfByte d).map fun c => .free (numberOfByte a) (numberOfByte b) c := rfl
    have layout (r : Resource) (q : ClaimSeq) (c : CloseReason) : [a, b, d] = bodyBytes (.free r q c) ↔
        numberOfByte a = r ∧ numberOfByte b = q ∧ reasonOfByte d = some c := by
      simp [bodyBytes, numberOfByte_eq_iff, reasonOfByte_eq_iff]
    simp only [decoded, layout, Option.map_eq_some_iff]
    constructor
    · rintro ⟨c, reason, rfl⟩
      exact ⟨_, _, c, rfl, rfl, rfl, reason⟩
    · rintro ⟨r, q, c, rfl, rfl, rfl, reason⟩
      exact ⟨c, reason, rfl⟩
  | a :: b :: d :: e :: rest =>
    have nothing : bodyOfBytes 5 (a :: b :: d :: e :: rest) = none := rfl
    simp [nothing, bodyBytes]

theorem bodyOfBytes_withdraw {bs : List Byte} {body : Body} : bodyOfBytes 6 bs = some body ↔ body = .withdraw ∧ bs = [] := by
  cases bs with
  | nil =>
    have decoded : bodyOfBytes 6 [] = some .withdraw := rfl
    simp [decoded, eq_comm]
  | cons a bs =>
    have nothing : bodyOfBytes 6 (a :: bs) = none := rfl
    simp [nothing]

/-! ## The body of a PRESENCE -/

/-- The counts of a valid PRESENCE fit their bytes. -/
theorem Presence.counts_lt {p : Presence} (valid : p.wellFormed = true) : p.heard.length < 256 ∧ p.held.length < 256 := by
  simp only [Presence.wellFormed, Bool.and_eq_true, decide_eq_true_eq, Config.heardListSize, Config.heldListSize] at valid
  obtain ⟨⟨⟨⟨heard, held⟩, -⟩, -⟩, -⟩ := valid
  exact ⟨by omega, by omega⟩

theorem byteOf_eq_iff {b : Byte} {n : Nat} (small : n < 256) : b = byteOf n ↔ b.toNat = n := by
  constructor
  · rintro rfl
    simp [byteOf, small]
  · rintro rfl
    simp [byteOf]

theorem heardOfBytes_length (bs : List Byte) : (heardOfBytes bs).length = bs.length / 2 := by
  match bs with
  | [] => simp [heardOfBytes]
  | [a] => simp [heardOfBytes]
  | a :: b :: rest =>
    rw [heardOfBytes, List.length_cons, heardOfBytes_length rest, List.length_cons, List.length_cons]
    omega

theorem heardMarked_length (l : List (Station × Incarnation)) : (heardMarked l).length = 2 * l.length := by
  simp [heardMarked, List.length_flatMap, Nat.mul_comm]

/-- The bytes of a PRESENCE after its interest set, its standing and its counts. -/
theorem spells_lists {bs : List Byte} {heard : List (Station × Incarnation)} {held : List Resource} :
    List.Forall₂ ByteSpells bs (heardMarked heard ++ exactly (heldBytes held)) ↔
      bs.length = 2 * heard.length + held.length ∧ heardOfBytes (bs.take (2 * heard.length)) = heard
        ∧ (bs.drop (2 * heard.length)).map numberOfByte = held := by
  rw [spells_append, spells_heard, spells_exactly, heardMarked_length, heldBytes_eq_iff, List.length_take]
  constructor
  · rintro ⟨⟨enough, heardSame⟩, heldSame⟩
    have rest := congrArg List.length heldSame
    rw [List.length_map, List.length_drop] at rest
    exact ⟨by omega, heardSame, heldSame⟩
  · rintro ⟨length, heardSame, heldSame⟩
    exact ⟨⟨by omega, heardSame⟩, heldSame⟩

/-- The frame whose PRESENCE the bytes after the header spell. -/
def presenceOfBytes (g1 g0 : Byte) (standing : AdvertisedStanding) (h : Byte) (rest : List Byte) : Presence :=
  { interest := BitVec.ofNat 16 (ofBytesBE [g1, g0]), standing := standing
    heard := heardOfBytes (rest.take (2 * h.toNat)), held := (rest.drop (2 * h.toNat)).map numberOfByte }

theorem bodyOfBytes_presence_cons (g1 g0 st h k : Byte) (rest : List Byte) : bodyOfBytes 1 (g1 :: g0 :: st :: h :: k :: rest) =
    if rest.length = 2 * h.toNat + k.toNat then
      (advertisedOfByte st).map fun standing => .presence (presenceOfBytes g1 g0 standing h rest)
    else none := rfl

theorem bodyOfBytes_presence_short {bs : List Byte} (short : bs.length < 5) : bodyOfBytes 1 bs = none := by
  match bs with
  | [] => rfl
  | [_] => rfl
  | [_, _] => rfl
  | [_, _, _] => rfl
  | [_, _, _, _] => rfl
  | _ :: _ :: _ :: _ :: _ :: _ => exact absurd short (by simp)

theorem spells_presence_cons {g1 g0 st h k : Byte} {rest : List Byte} {p : Presence} :
    List.Forall₂ ByteSpells (g1 :: g0 :: st :: h :: k :: rest) (bodyMarked (.presence p)) ↔
      [g1, g0] = bytesBE 2 p.interest.toNat ∧ st = advertisedCode p.standing ∧ h = byteOf p.heard.length
        ∧ k = byteOf p.held.length ∧ List.Forall₂ ByteSpells rest (heardMarked p.heard ++ exactly (heldBytes p.held)) := by
  have layout : bodyMarked (.presence p) = exactly (bytesBE 2 p.interest.toNat)
      ++ ([(advertisedCode p.standing, false), (byteOf p.heard.length, false), (byteOf p.held.length, false)]
        ++ (heardMarked p.heard ++ exactly (heldBytes p.held))) := by
    simp [bodyMarked, exactly]
  have two : (exactly (bytesBE 2 p.interest.toNat)).length = 2 := by simp [exactly, bytesBE_length]
  rw [layout, spells_append, two, spells_exactly]
  simp only [List.take_succ_cons, List.take_zero, List.drop_succ_cons, List.drop_zero, List.cons_append, List.nil_append,
    List.forall₂_cons, byteSpells_exact]

theorem bodyOfBytes_presence {bs : List Byte} {body : Body} (valid : body.wellFormed = true) : bodyOfBytes 1 bs = some body ↔
    ∃ p, body = .presence p ∧ List.Forall₂ ByteSpells bs (bodyMarked (.presence p)) := by
  by_cases short : bs.length < 5
  · have long (p : Presence) : 5 ≤ (bodyMarked (.presence p)).length := by
      simp [bodyMarked, exactly, bytesBE_length]
      omega
    rw [bodyOfBytes_presence_short short]
    refine ⟨fun never => (nomatch never), fun ⟨p, _, spells⟩ => absurd (long p) ?_⟩
    rw [← spells.length_eq]
    exact Nat.not_le.mpr short
  · obtain ⟨g1, g0, st, h, k, rest, rfl⟩ : ∃ g1 g0 st h k rest, bs = g1 :: g0 :: st :: h :: k :: rest := by
      match bs with
      | g1 :: g0 :: st :: h :: k :: rest => exact ⟨g1, g0, st, h, k, rest, rfl⟩
      | [] | [_] | [_, _] | [_, _, _] | [_, _, _, _] => simp at short
    rw [bodyOfBytes_presence_cons]
    simp only [spells_presence_cons, spells_lists, ← advertisedOfByte_eq_iff]
    constructor
    · intro spelled
      obtain ⟨length, spelled⟩ := Option.ite_none_right_eq_some.mp spelled
      obtain ⟨standing, advertised, rfl⟩ := Option.map_eq_some_iff.mp spelled
      have heardCount : (presenceOfBytes g1 g0 standing h rest).heard.length = h.toNat := by
        rw [presenceOfBytes, heardOfBytes_length, List.length_take]
        omega
      have heldCount : (presenceOfBytes g1 g0 standing h rest).held.length = k.toNat := by
        rw [presenceOfBytes, List.length_map, List.length_drop]
        omega
      refine ⟨_, rfl, (field_eq_iff (w := 16) (by norm_num) rfl).mp rfl, advertised, ?_, ?_, ?_⟩
      · rw [heardCount, byteOf_eq_iff h.isLt]
      · rw [heldCount, byteOf_eq_iff k.isLt]
      · rw [heardCount, heldCount]
        exact ⟨length, rfl, rfl⟩
    · rintro ⟨p, rfl, interest, advertised, heardCount, heldCount, length, heard, held⟩
      obtain ⟨heardSmall, heldSmall⟩ := Presence.counts_lt valid
      rw [byteOf_eq_iff heardSmall] at heardCount
      rw [byteOf_eq_iff heldSmall] at heldCount
      rw [if_pos (by omega), advertised, Option.map_some, presenceOfBytes, heardCount, heard, held,
        (field_eq_iff (w := 16) (by norm_num) rfl).mpr interest]

/-- R122, R123, R190: the bodies that the bytes after a header give. -/
theorem bodyOfBytes_eq_some {kind : Nat} {bs : List Byte} {body : Body} (valid : body.wellFormed = true) :
    bodyOfBytes kind bs = some body ↔ kind = bodyKind body ∧ List.Forall₂ ByteSpells bs (bodyMarked body) := by
  match kind with
  | 0 =>
    have nothing : bodyOfBytes 0 bs = none := rfl
    rw [nothing]
    cases body <;> simp [bodyKind]
  | 1 => rw [bodyOfBytes_presence valid]; cases body <;> simp [bodyKind]
  | 2 => rw [bodyOfBytes_claim]; cases body <;> simp [bodyKind, bodyMarked, spells_exactly]
  | 3 => rw [bodyOfBytes_grant]; cases body <;> simp [bodyKind]
  | 4 => rw [bodyOfBytes_hold]; cases body <;> simp [bodyKind, bodyMarked, spells_exactly]
  | 5 => rw [bodyOfBytes_free]; cases body <;> simp [bodyKind, bodyMarked, spells_exactly]
  | 6 => rw [bodyOfBytes_withdraw]; cases body <;> simp [bodyKind, bodyMarked, spells_exactly, bodyBytes]
  | n + 7 =>
    have nothing : bodyOfBytes (n + 7) bs = none := rfl
    rw [nothing]
    cases body <;> simp [bodyKind]

end Sys2Proof.Machine

/-! PROOFS. The frame that bytes between two delimiters spell (R122, R123, R134, R190). -/

namespace Sys2Proof.Machine

/-! ## The header -/

/-- R190: kind code and source in the first byte. -/
theorem firstByte_eq_iff {b : Byte} {kind : Nat} (known : kind < 8) {x : Station} :
    b = byteOf (kind * 32 + x.val) ↔ b.toNat / 32 = kind ∧ stationOfByte b = x := by
  have hx := x.isLt
  rw [byteOf_eq_iff (by omega), stationOfByte, Fin.ext_iff]
  show b.toNat = kind * 32 + x.val ↔ b.toNat / 32 = kind ∧ b.toNat % 32 = x.val
  omega

theorem bodyKind_lt (body : Body) : bodyKind body < 8 := by
  cases body <;> simp [bodyKind]

theorem headerBytes_eq_iff {b0 inc c5 c4 c3 c2 c1 c0 : Byte} {kind : Nat} (known : kind < 8) {h : Header} :
    [b0, inc, c5, c4, c3, c2, c1, c0] = headerBytes kind h ↔ b0.toNat / 32 = kind ∧ stationOfByte b0 = h.source
      ∧ numberOfByte inc = h.incarnation ∧ clockOfBytes [c5, c4, c3, c2, c1, c0] = h.clock := by
  rw [headerBytes, List.cons.injEq, List.cons.injEq, firstByte_eq_iff known, ← numberOfByte_eq_iff, clockOfBytes,
    field_eq_iff (w := 48) (n := 6) (by norm_num) rfl, and_assoc]

theorem headerBytes_length (kind : Nat) (h : Header) : (headerBytes kind h).length = 8 := by
  simp [headerBytes, bytesBE_length]

theorem frameOfPayload_cons (b0 inc c5 c4 c3 c2 c1 c0 : Byte) (rest : List Byte) :
    frameOfPayload (b0 :: inc :: c5 :: c4 :: c3 :: c2 :: c1 :: c0 :: rest) =
      (bodyOfBytes (b0.toNat / 32) rest).map fun body =>
        { header := { source := stationOfByte b0, incarnation := numberOfByte inc,
                      clock := clockOfBytes [c5, c4, c3, c2, c1, c0] },
          body := body } := rfl

theorem frameOfPayload_short {bs : List Byte} (short : bs.length < 8) : frameOfPayload bs = none := by
  match bs with
  | [] | [_] | [_, _] | [_, _, _] | [_, _, _, _] | [_, _, _, _, _] | [_, _, _, _, _, _] | [_, _, _, _, _, _, _] => rfl
  | _ :: _ :: _ :: _ :: _ :: _ :: _ :: _ :: _ => exact absurd short (by simp)

/-- R122, R123: the frames that header and body bytes give. -/
theorem frameOfPayload_eq_some {bs : List Byte} {f : Frame} (valid : frameValid f = true) :
    frameOfPayload bs = some f ↔ List.Forall₂ ByteSpells bs (payloadMarked f) := by
  have eight : (exactly (headerBytes (bodyKind f.body) f.header)).length = 8 := by simp [exactly, headerBytes_length]
  rw [payloadMarked, spells_append, eight, spells_exactly]
  by_cases short : bs.length < 8
  · rw [frameOfPayload_short short]
    refine ⟨fun never => (nomatch never), fun ⟨header, _⟩ => absurd (congrArg List.length header) ?_⟩
    rw [headerBytes_length, List.length_take]
    omega
  · obtain ⟨b0, inc, c5, c4, c3, c2, c1, c0, rest, rfl⟩ : ∃ b0 inc c5 c4 c3 c2 c1 c0 rest,
        bs = b0 :: inc :: c5 :: c4 :: c3 :: c2 :: c1 :: c0 :: rest := by
      match bs with
      | b0 :: inc :: c5 :: c4 :: c3 :: c2 :: c1 :: c0 :: rest => exact ⟨b0, inc, c5, c4, c3, c2, c1, c0, rest, rfl⟩
      | [] | [_] | [_, _] | [_, _, _] | [_, _, _, _] | [_, _, _, _, _] | [_, _, _, _, _, _] | [_, _, _, _, _, _, _] =>
        simp at short
    rw [frameOfPayload_cons, Option.map_eq_some_iff]
    simp only [List.take_succ_cons, List.take_zero, List.drop_succ_cons, List.drop_zero,
      headerBytes_eq_iff (bodyKind_lt f.body)]
    constructor
    · rintro ⟨body, spelled, rfl⟩
      obtain ⟨kind, spells⟩ := (bodyOfBytes_eq_some valid).mp spelled
      exact ⟨⟨kind, rfl, rfl, rfl⟩, spells⟩
    · rintro ⟨⟨kind, source, incarnation, clock⟩, spells⟩
      exact ⟨f.body, (bodyOfBytes_eq_some valid).mpr ⟨kind, spells⟩, by rw [source, incarnation, clock]⟩

/-! ## The whole frame -/

theorem crc16Bytes_length (bs : List Byte) : (crc16Bytes bs).length = 2 := bytesBE_length 2 _

/-- R122, R123: the bytes that are taken as a frame. -/
theorem frameOfBytes_eq_some {bs : List Byte} {f : Frame} : frameOfBytes bs = some f ↔
    bs.drop (bs.length - 2) = crc16Bytes (bs.take (bs.length - 2)) ∧ frameValid f = true
      ∧ List.Forall₂ ByteSpells (bs.take (bs.length - 2)) (payloadMarked f) := by
  rw [frameOfBytes, Option.ite_none_right_eq_some, Option.filter_eq_some_iff]
  refine and_congr_right fun _ => ⟨fun ⟨spelled, valid⟩ => ⟨valid, (frameOfPayload_eq_some valid).mp spelled⟩,
    fun ⟨valid, spells⟩ => ⟨(frameOfPayload_eq_some valid).mpr spells, valid⟩⟩

theorem frameBytes_length (f : Frame) : (frameBytes f).length = (payloadBytes f).length + 2 := by
  rw [frameBytes, List.length_append, crc16Bytes_length]

theorem frameOfBytes_frameBytes {f : Frame} (valid : frameValid f = true) : frameOfBytes (frameBytes f) = some f := by
  have payload : (frameBytes f).length - 2 = (payloadBytes f).length := by rw [frameBytes_length, Nat.add_sub_cancel]
  rw [frameOfBytes_eq_some, payload, frameBytes, List.take_left, List.drop_left]
  refine ⟨rfl, valid, ?_⟩
  rw [← payloadMarked_bytes]
  exact spells_self _

/-! ## The marks, by their place -/

/-- R190: the places in a frame whose bits 7 to 5 are not read. -/
def StationByte (body : Body) (i : Nat) : Prop :=
  match body with
  | .presence p => ∃ j, j < p.heard.length ∧ i = 13 + 2 * j
  | .grant _ _ _ => i = 8
  | .claim _ _ _ | .hold _ _ | .free _ _ _ | .withdraw => False

theorem marks_replicate_append (n : Nat) (l : List Bool) (i : Nat) :
    (List.replicate n false ++ l).getD i false = true ↔ n ≤ i ∧ l.getD (i - n) false = true := by
  by_cases inside : i < n
  · rw [List.getD_append _ _ _ _ (by simpa using inside)]
    simp [inside, Nat.not_le.mpr inside]
  · rw [List.getD_append_right _ _ _ _ (by simpa using inside), List.length_replicate]
    simp [Nat.le_of_not_lt inside]

theorem marks_append_replicate (n : Nat) (l : List Bool) (i : Nat) :
    (l ++ List.replicate n false).getD i false = l.getD i false := by
  by_cases inside : i < l.length
  · rw [List.getD_append _ _ _ _ inside]
  · rw [List.getD_append_right _ _ _ _ (Nat.le_of_not_lt inside), List.getD_eq_default l _ (Nat.le_of_not_lt inside)]
    by_cases more : i - l.length < n <;> simp [more]

theorem marks_heard (l : List (Station × Incarnation)) (i : Nat) :
    ((heardMarked l).map Prod.snd).getD i false = true ↔ ∃ j, j < l.length ∧ i = 2 * j := by
  induction l generalizing i with
  | nil => simp [heardMarked]
  | cons q l ih =>
    have marks : (heardMarked (q :: l)).map Prod.snd = true :: false :: (heardMarked l).map Prod.snd := rfl
    rw [marks]
    match i with
    | 0 => simp
    | 1 =>
      refine ⟨fun never => (nomatch never), fun ⟨j, _, odd⟩ => ?_⟩
      omega
    | i + 2 =>
      rw [List.getD_cons_succ, List.getD_cons_succ, ih]
      constructor
      · rintro ⟨j, inside, rfl⟩
        exact ⟨j + 1, Nat.succ_lt_succ inside, rfl⟩
      · rintro ⟨j, inside, place⟩
        rw [List.length_cons] at inside
        exact ⟨j - 1, by omega, by omega⟩

theorem exactly_marks (bs : List Byte) : (exactly bs).map Prod.snd = List.replicate bs.length false := by
  simp [exactly, Function.comp_def, List.map_const']

theorem exactly_noMark (bs : List Byte) (i : Nat) : ¬ ((exactly bs).map Prod.snd).getD i false = true := by
  have unmarked := marks_append_replicate bs.length [] i
  rw [List.nil_append, List.getD_nil] at unmarked
  rw [exactly_marks, unmarked]
  exact Bool.false_ne_true

theorem StationByte.ge {body : Body} {i : Nat} (station : StationByte body i) : 8 ≤ i := by
  cases body with
  | presence p =>
    obtain ⟨j, -, place⟩ := station
    omega
  | grant x r q => exact Nat.le_of_eq (Eq.symm station)
  | claim r q t => exact station.elim
  | hold r q => exact station.elim
  | free r q c => exact station.elim
  | withdraw => exact station.elim

/-- The marks of a body: the stations of its heard list, and the target of a GRANT. -/
theorem bodyMarked_marks (body : Body) (i : Nat) :
    ((bodyMarked body).map Prod.snd).getD i false = true ↔ StationByte body (8 + i) := by
  cases body with
  | presence p =>
    rw [bodyMarked, List.map_append, List.map_append, exactly_marks, exactly_marks, marks_append_replicate,
      marks_replicate_append, marks_heard, List.length_append, bytesBE_length]
    simp only [StationByte, List.length_cons, List.length_nil]
    constructor
    · rintro ⟨_, j, inside, place⟩
      exact ⟨j, inside, by omega⟩
    · rintro ⟨j, inside, place⟩
      exact ⟨by omega, j, inside, by omega⟩
  | grant x r q =>
    have marks : (bodyMarked (.grant x r q)).map Prod.snd = true :: List.replicate 2 false := rfl
    rw [marks]
    cases i with
    | zero => simp [StationByte]
    | succ i =>
      have rest := marks_append_replicate 2 [] i
      rw [List.nil_append, List.getD_nil] at rest
      rw [List.getD_cons_succ, rest]
      simp [StationByte]
  | claim r q t => exact ⟨fun mark => absurd mark (exactly_noMark _ i), False.elim⟩
  | hold r q => exact ⟨fun mark => absurd mark (exactly_noMark _ i), False.elim⟩
  | free r q c => exact ⟨fun mark => absurd mark (exactly_noMark _ i), False.elim⟩
  | withdraw => exact ⟨fun mark => absurd mark (exactly_noMark _ i), False.elim⟩

theorem payloadMarked_marks (f : Frame) (i : Nat) :
    ((payloadMarked f).map Prod.snd).getD i false = true ↔ StationByte f.body i := by
  rw [payloadMarked, List.map_append, exactly_marks, headerBytes_length, marks_replicate_append, bodyMarked_marks]
  constructor
  · rintro ⟨le, station⟩
    rwa [Nat.add_sub_cancel' le] at station
  · intro station
    exact ⟨station.ge, by rwa [Nat.add_sub_cancel' station.ge]⟩

/-- The spelling of a layout, place by place. -/
theorem spells_iff_getD {bs : List Byte} {l : List (Byte × Bool)} : List.Forall₂ ByteSpells bs l ↔ bs.length = l.length
    ∧ ∀ i, i < bs.length → bs.getD i 0 = (l.map Prod.fst).getD i 0
      ∨ (l.map Prod.snd).getD i false = true ∧ (bs.getD i 0).toNat % 32 = ((l.map Prod.fst).getD i 0).toNat := by
  rw [List.forall₂_iff_get]
  refine and_congr_right fun length => forall_congr' fun i => ?_
  have place (inside : i < bs.length) : ByteSpells (bs.get ⟨i, inside⟩) (l.get ⟨i, length ▸ inside⟩) ↔
      (bs.getD i 0 = (l.map Prod.fst).getD i 0
        ∨ (l.map Prod.snd).getD i false = true ∧ (bs.getD i 0).toNat % 32 = ((l.map Prod.fst).getD i 0).toNat) := by
    have inside' : i < l.length := length ▸ inside
    rw [List.getD_eq_getElem _ _ inside, List.getD_eq_getElem _ _ (by simpa using inside'),
      List.getD_eq_getElem _ _ (by simpa using inside'), List.getElem_map, List.getElem_map]
    rfl
  exact ⟨fun each inside => (place inside).mp (each inside (length ▸ inside)),
    fun each inside _ => (place inside).mpr (each inside)⟩

theorem payloadMarked_length (f : Frame) : (payloadMarked f).length = (payloadBytes f).length := by
  rw [← payloadMarked_bytes, List.length_map]

/-- R190: the first byte of a frame, which is no station byte of the body. -/
theorem payloadBytes_first (f : Frame) : ((payloadBytes f).getD 0 0).toNat / 32 = bodyKind f.body :=
  ((firstByte_eq_iff (bodyKind_lt f.body)).mp (show (payloadBytes f).getD 0 0 = _ from rfl)).1

theorem payloadBytes_nonempty (f : Frame) : 0 < (payloadBytes f).length := by
  rw [payloadBytes, List.length_append, headerBytes_length]
  omega

/-- The bytes that are taken as a frame, by their content, kind, length, CRC-16 and places. -/
theorem frameOfBytes_iff_places (bs : List Byte) (f : Frame) : frameOfBytes bs = some f ↔
    frameValid f = true ∧ (bs.headD 0).toNat / 32 = bodyKind f.body ∧ bs.length = (frameBytes f).length
      ∧ bs.drop (bs.length - 2) = crc16Bytes (bs.take (bs.length - 2))
      ∧ ∀ i, i < bs.length - 2 → bs.getD i 0 = (payloadBytes f).getD i 0
        ∨ StationByte f.body i ∧ (bs.getD i 0).toNat % 32 = ((payloadBytes f).getD i 0).toNat := by
  have taken (i : Nat) (inside : i < bs.length - 2) : (bs.take (bs.length - 2)).getD i 0 = bs.getD i 0 := by
    rw [List.getD_eq_getElem _ _ (by rw [List.length_take]; omega), List.getD_eq_getElem _ _ (by omega), List.getElem_take]
  have length : (bs.take (bs.length - 2)).length = bs.length - 2 := by
    rw [List.length_take]
    omega
  rw [frameOfBytes_eq_some, spells_iff_getD, length, payloadMarked_length, payloadMarked_bytes, frameBytes_length]
  simp only [payloadMarked_marks]
  constructor
  · rintro ⟨crc, valid, size, places⟩
    have two := congrArg List.length crc
    rw [crc16Bytes_length, List.length_drop] at two
    have first : 0 < bs.length - 2 := size ▸ payloadBytes_nonempty f
    have spelled (i : Nat) (inside : i < bs.length - 2) := taken i inside ▸ places i inside
    refine ⟨valid, ?_, by omega, crc, spelled⟩
    have head : bs.headD 0 = bs.getD 0 0 := by cases bs <;> rfl
    have same : bs.getD 0 0 = (payloadBytes f).getD 0 0 :=
      (spelled 0 first).resolve_right fun station => absurd station.1.ge (by omega)
    rw [head, same, payloadBytes_first]
  · rintro ⟨valid, -, size, crc, places⟩
    exact ⟨crc, valid, by omega, fun i inside => (taken i inside).symm ▸ places i inside⟩

/-- Settles O51: bytes by what they spell, cells by what their bits and delimiters give. -/
theorem frameBytesSpellTheFrame : Obligations.FrameBytesSpellTheFrame :=
  ⟨fun _ => frameOfBytes_frameBytes, frameOfBytes_iff_places, framedBytes_frameCells, ⟨rfl, rfl⟩,
    fun before bits bytes rest _ => ⟨framedBytes_of_delimited before bytes rest, framedBytes_of_noStart before,
      framedBytes_of_noEnd before bits, framedBytes_of_violation before bits rest⟩⟩

end Sys2Proof.Machine
